-- ==== Sys2Proof/Word.lean ====
section
/-! DEFINITION. The word types of the AP46: the byte of the link and of the buffer memory (section 5.2 of the
scope file), and the 2-byte and 4-byte fields that payloads carry (R169). -/

namespace Sys2Proof

/-- One byte: a character of the link, a payload byte, a byte of buffer memory. -/
abbrev Byte := BitVec 8

/-- A 2-byte field (R169): a DELTA sample, the WHITEN state, CRC16 init and xorout. -/
abbrev Half := BitVec 16

/-- A 4-byte field (R169): a key, an expect value, a check value, a CRC remainder, a stream total. -/
abbrev Quad := BitVec 32

end Sys2Proof
end

