-- ==== Sys2Proof/Config.lean ====
section
/-! DEFINITION. What the part as built fixes: its capacities (the scope file, section 2), its timer periods and its
identity codes (R163). The spec leaves no value of an operation open, so no free value stands here. -/

namespace Sys2Proof

/-- A channel number, CH0 to CH3. -/
abbrev ChanIx := Fin 4

/-- A stream number, 0 to 15 (R1). -/
abbrev StreamIx := Fin 16

/-- An engine number, 0 to 5: DL0, DL1, RL0, WH0, CK0, CK1 (R76). -/
abbrev EngineIx := Fin 6

/-- A fault bank number, 0 to 6 (R140). -/
abbrev BankIx := Fin 7

namespace Config

/-- Entries of one channel's job queue (R55). -/
@[reducible, simp] def queueEntries : Nat := 8
/-- Blocks of buffer memory (chapter 5, section 5.1). -/
@[reducible, simp] def blocks : Nat := 512
/-- Bytes of a block (chapter 5, section 5.1). -/
@[reducible, simp] def blockSize : Nat := 64
/-- Bytes of a word under one error-correcting code (chapter 5, section 5.1). -/
@[reducible, simp] def wordSize : Nat := 8
/-- Entries of the handle table, handles 1 to 48 (R100). -/
@[reducible, simp] def handles : Nat := 48
/-- The largest buffer size, and the maximum of an AUTO OUT of length 0 (R44, R103). -/
@[reducible, simp] def maxBuffer : Nat := 4096
/-- Reports the outbox holds (R117). -/
@[reducible, simp] def outboxReports : Nat := 16
/-- Frames the request inbox holds, replies the cache holds, NOT-OPEN replies that may wait (R158, R159, R161). -/
@[reducible, simp] def window : Nat := 4
/-- The largest LEN of a frame (R153). -/
@[reducible, simp] def maxPayload : Nat := 240
/-- The reserve after each reset (R102). -/
@[reducible, simp] def resetReserve : Nat := 16
/-- The largest reserve (R108). -/
@[reducible, simp] def maxReserve : Nat := 128
/-- The receiver's gap timer period in milliseconds (R155). -/
@[reducible, simp] def gapPeriod : Nat := 5
/-- The retry period after each reset, in units of 10 ms (R132). -/
@[reducible, simp] def resetRetryPeriod : Nat := 20
/-- WARN of each channel after each reset, in milliseconds (R150). -/
@[reducible, simp] def resetWarn : Nat := 100
/-- LIMIT of each channel after each reset, in milliseconds (R150). -/
@[reducible, simp] def resetLimit : Nat := 1000
/-- The largest WARN and LIMIT (R133). -/
@[reducible, simp] def maxWatch : Nat := 60000
/-- Retries made before the next expiry makes the link QUIET (R128). -/
@[reducible, simp] def retries : Nat := 5
/-- Uncorrected arrivals that give the automatic offline trigger (R143). -/
@[reducible, simp] def offlineThreshold : Nat := 3

end Config
end Sys2Proof
end

