-- ==== Sys2Proof/Syntax.lean ====
section
/-! DEFINITION. The commands of the AP46: one constructor per row of spec/opcode_table.json. A request row is the event
"the Request Decoder takes the oldest inbox frame, which is of this kind": its operands are the bytes of that frame, so
the constructor carries none. An event row carries what tells one such event from another: the channel, the engine,
the bytes that arrive, the level of a pin, the place an error strikes. -/

namespace Sys2Proof

/-- Which part of a stream's context: the primary part or the check part (R5). -/
inductive Which where
  | primary
  | check
  deriving DecidableEq, Repr

/-- The error level of a stored word (R98) or of a stored copy of a context part (R7). -/
inductive ErrLevel where
  | clean
  | correctable
  | uncorrectable
  deriving DecidableEq, Repr

/-- The level of an input pin (scope file, section 4). -/
inductive PinLevel where
  | low
  | high
  deriving DecidableEq, Repr

/-- What arrives on the inbound stream: a byte, or in UART form a character whose stop bit is low (R151, R156).
DESIGN CHOICE, log 10. -/
inductive Inbound where
  | byte (b : Byte)
  | badCharacter
  deriving DecidableEq, Repr

/-- A stored copy of a context part that an error event can strike (R7): a table copy, or the resident copy that an
engine keeps.
DESIGN CHOICE, log 42. -/
inductive CopySite where
  | table (n : StreamIx) (w : Which)
  | resident (e : EngineIx)
  deriving DecidableEq, Repr

/-- The commands, in the order of spec/opcode_table.json. -/
inductive Instr where
  /-- R168: power is applied. -/
  | powerOn
  /-- R168: RESETN is driven low. -/
  | resetnAssert
  /-- R168: RESETN rises. -/
  | resetnRelease
  /-- R168: start-up ends with LSEL at this level. -/
  | startUpEnd (lsel : PinLevel)
  /-- R158: these bytes arrive, the last of them being the second CHECK byte of a frame. -/
  | frameReceived (bytes : List Byte)
  /-- R155: the gap timer expires. -/
  | gapTimerExpiry
  /-- R166: the free transmitter begins the first ready frame. -/
  | transmitFrameBegin
  /-- R166: the last byte of the frame being sent has been sent. -/
  | frameSent
  /-- R171: the decoder takes a frame of no request kind. -/
  | unknownKindRequest
  /-- R163: the decoder takes a LINK OPEN. -/
  | linkOpen
  /-- R167: the decoder takes a RESET. -/
  | reset
  /-- R103: the decoder takes a BUF ALLOC. -/
  | bufAlloc
  /-- R104: the decoder takes a BUF WRITE. -/
  | bufWrite
  /-- R105: the decoder takes a BUF READ. -/
  | bufRead
  /-- R106: the decoder takes a BUF FREE. -/
  | bufFree
  /-- R107: the decoder takes a BUF INFO. -/
  | bufInfo
  /-- R108: the decoder takes a STORE SET. -/
  | storeSet
  /-- R18: the decoder takes a STREAM OPEN. -/
  | streamOpen
  /-- R19: the decoder takes a STREAM CLOSE. -/
  | streamClose
  /-- R20: the decoder takes a STREAM RESET. -/
  | streamReset
  /-- R23: the decoder takes a STREAM QUERY. -/
  | streamQuery
  /-- R21: the decoder takes a STREAM MOVE. -/
  | streamMove
  /-- R22: the decoder takes a STREAM KEY. -/
  | streamKey
  /-- R50: the decoder takes a JOB SUBMIT. -/
  | jobSubmit
  /-- R68: the decoder takes a JOB ABORT. -/
  | jobAbort
  /-- R72: the decoder takes a CHANNEL SET. -/
  | channelSet
  /-- R74: the decoder takes a CHANNEL QUERY. -/
  | channelQuery
  /-- R91: the decoder takes an ENGINE PIN. -/
  | enginePin
  /-- R92: the decoder takes an ENGINE UNPIN. -/
  | engineUnpin
  /-- R93: the decoder takes an ENGINE OFFLINE. -/
  | engineOffline
  /-- R94: the decoder takes an ENGINE RESTORE. -/
  | engineRestore
  /-- R95: the decoder takes an ENGINE QUERY. -/
  | engineQuery
  /-- R125: the decoder takes a REPORT ACK. -/
  | reportAck
  /-- R129: the decoder takes a REPORT SET. -/
  | reportSet
  /-- R139: the decoder takes a WATCH SET. -/
  | watchSet
  /-- R147: the decoder takes a FAULT READ. -/
  | faultRead
  /-- R148: the decoder takes a FAULT CLEAR. -/
  | faultClear
  /-- R149: the decoder takes a FAULT MASK. -/
  | faultMask
  /-- R9: the save of the resident part of this engine ends. -/
  | saveEnd (e : EngineIx)
  /-- R59: the LOADING work of this channel's head job ends. -/
  | loadingEnd (c : ChanIx)
  /-- R26: the head job of this channel takes one byte step. -/
  | byteStep (c : ChanIx)
  /-- R46: the transform work of this channel's head job ends. -/
  | transformWorkEnd (c : ChanIx)
  /-- R61: every save of this channel's head job in SAVING has ended. -/
  | savingEnd (c : ChanIx)
  /-- R79: the self-check of this engine finds a fault in its working copy. -/
  | engineSelfCheckFault (e : EngineIx)
  /-- R81: the scrub of this engine ends. -/
  | scrubCompletion (e : EngineIx)
  /-- R136: the progress timer of this channel reaches WARN. -/
  | warnExpiry (c : ChanIx)
  /-- R137: the progress timer of this channel reaches LIMIT. -/
  | limitExpiry (c : ChanIx)
  /-- R128: the retry timer expires. -/
  | retryTimerExpiry
  /-- R154: a byte or a bad character arrives. -/
  | inboundByte (x : Inbound)
  /-- R98: an error event strikes this word of this block. -/
  | storedWordErrorEvent (block : Fin 512) (word : Fin 8)
  /-- R7: an error event strikes this stored copy and leaves it at this level. -/
  | contextCopyErrorEvent (site : CopySite) (level : ErrLevel)
  deriving DecidableEq, Repr

end Sys2Proof
end

