-- ==== Sys2Proof/Decode.lean ====
section
/-! DEFINITION. The table of commands (spec/opcode_table.json) gives no row any bits: a command is an event or the taking
of an inbox frame, not a word. So no word spells a command. The bytes of a request frame are read by the receiver
(Machine/Receiver.lean) and by the Request Decoder (Machine/RequestDecoder.lean). -/

namespace Sys2Proof

/-- The command that a word spells by the table's bits: none, for the table gives no row bits.
DEDUCED, log 40. -/
def decodeTableWord (_nbits _w : Nat) : Option Instr := none

end Sys2Proof
end

