-- ==== Sys2Proof/Machine/State.lean ====
section
/-! DEFINITION. Everything the spec gives the AP46 to hold, as plain data, one structure per block of section 3 of the
scope file, and the state after Power-on. INVENTORY.md lists each field with its rule and its reset value. -/

namespace Sys2Proof.Machine

/-! ### Streams (chapter 1) -/

/-- The record state of a stream entry (R1, R2). -/
inductive RecordState where
  | free
  | atRest
  | inRecord
  | faulted
  deriving DecidableEq, Repr

/-- The kinds of transform, of a profile's primary and of an engine (R4, R76). -/
inductive Kind where
  | delta
  | run
  | whiten
  | check
  deriving DecidableEq, Repr

/-- The secondary of a profile (R4). -/
inductive Secondary where
  | none
  | check
  deriving DecidableEq, Repr

/-- Which byte flow of the primary a secondary CHECK sees (R26). -/
inductive Tap where
  | input
  | output
  deriving DecidableEq, Repr

/-- The variant of a CHECK (R38, R39). -/
inductive Variant where
  | crc16
  | crc32
  deriving DecidableEq, Repr

/-- The fixed profile of a stream (R4). A field that the profile does not use holds 0, its first code. -/
structure Profile where
  kind : Kind
  deltaWidth : Nat
  deltaBase : Half
  runMin : Nat
  runEscape : Byte
  whitenSeed : Half
  secondary : Secondary
  tap : Tap
  variant : Variant
  crcInit : Half
  crcXorout : Half
  deriving DecidableEq, Repr

/-- The value of a context part (R6). A CRC16 remainder stands in the low half of `remainder`. -/
inductive PartValue where
  | delta (previous : Half) (carry : Option Byte)
  | run (pending : Option (Byte × Nat))
  | whiten (lfsr : Half)
  | check (remainder : Quad) (count : Quad)
  deriving DecidableEq, Repr

/-- A stored copy of a context part under its check code (R7). -/
structure Copy where
  value : PartValue
  level : ErrLevel
  deriving DecidableEq, Repr

/-- One stream entry (R1). Which engine owns a part is what the engines hold (R8). The table copies are `primaryCopy` and
`checkCopy`; the second is used only with a secondary CHECK. -/
structure Stream where
  state : RecordState
  home : ChanIx
  profile : Profile
  key : Option Quad
  inFlight : Nat
  tail : RecordState
  segments : Quad
  bytesIn : Quad
  bytesOut : Quad
  primaryCopy : Copy
  checkCopy : Copy
  deriving DecidableEq, Repr

/-- The profile that a FREE entry is left with: every field at 0 (R1 gives it no value).
DESIGN CHOICE, log 36. -/
def blankProfile : Profile :=
  { kind := .delta, deltaWidth := 0, deltaBase := 0, runMin := 0, runEscape := 0, whitenSeed := 0
    secondary := .none, tap := .input, variant := .crc16, crcInit := 0, crcXorout := 0 }

/-- The copy that a FREE entry is left with (R1 gives it no value).
DESIGN CHOICE, log 36. -/
def blankCopy : Copy := { value := .delta 0 none, level := .clean }

/-- A FREE entry (R1, R24).
DESIGN CHOICE, log 36. -/
def freeStream : Stream :=
  { state := .free, home := 0, profile := blankProfile, key := none, inFlight := 0, tail := .free
    segments := 0, bytesIn := 0, bytesOut := 0, primaryCopy := blankCopy, checkCopy := blankCopy }

/-! ### Jobs and channels (chapter 3) -/

/-- The place of a job's segment in its record (R15). -/
inductive Phase where
  | whole
  | first
  | middle
  | last
  deriving DecidableEq, Repr

/-- The role of an operand (R51). PREFIX is `lead`. -/
inductive Role where
  | lead
  | data
  | out
  | checkOut
  deriving DecidableEq, Repr

/-- One operand of a job: role, handle, offset, length (R48). -/
structure Operand where
  role : Role
  handle : Nat
  offset : Nat
  length : Nat
  deriving DecidableEq, Repr

/-- The state of a job (R48, R57). -/
inductive JobState where
  | queued
  | waiting
  | loading
  | running
  | held
  | saving
  | done
  | failed
  | aborted
  | cancelled
  deriving DecidableEq, Repr

/-- The end reason of a job (R64, R65). -/
inductive Reason where
  | none
  | outFull
  | dataError
  | contextError
  | engineFault
  | stalled
  | noEngine
  | predecessor
  | streamFaulted
  deriving DecidableEq, Repr

/-- An end cause taken in LOADING and held until its work ends (R59). -/
inductive HeldCause where
  | abort
  | limit
  deriving DecidableEq, Repr

/-- The verify result of a job (R42). -/
inductive Verify where
  | none
  | isMatch
  | mismatch
  deriving DecidableEq, Repr

/-- A job record (R48). Four fields are the model's: `due`, the bytes the primary has produced and not yet written (the
byte in hand of R26 and the rest of its group), `inHand`, the DATA byte that they were produced for, none where they are
those of the finalize step, `finalized`, that the primary's finalize step has produced its bytes (R26), and `wordsRead`, the words of input buffers that an engine of the job has read (R115), each as engine, handle
and number of the word in the buffer.
DESIGN CHOICE, log 25 and 27. -/
structure Job where
  tag : Nat
  channel : ChanIx
  stream : StreamIx
  phase : Phase
  mark : Bool
  expect : Option Quad
  operands : List Operand
  state : JobState
  reason : Reason
  abortMark : Bool
  heldCause : Option HeldCause
  engines : Option (EngineIx × Option EngineIx)
  leadFed : Nat
  dataConsumed : Nat
  outWritten : Nat
  oddTail : Bool
  warned : Bool
  streamFaulted : Bool
  checkValue : Option Quad
  verify : Verify
  autoHandle : Nat
  due : List Byte
  inHand : Option Byte
  finalized : Bool
  wordsRead : List (EngineIx × Nat × Nat)
  deriving DecidableEq, Repr

/-- The report mode of a channel (R72). -/
inductive Mode where
  | each
  | marked
  deriving DecidableEq, Repr

/-- One channel sequencer: its queue, oldest first (R55), report mode (R72), silent count (R73), and whether the JOB END
claim of its head stands (R67). -/
structure Channel where
  queue : List Job
  mode : Mode
  silent : Nat
  claim : Bool
  deriving DecidableEq, Repr

/-- A channel after a reset (R75). -/
def emptyChannel : Channel := { queue := [], mode := .each, silent := 0, claim := false }

/-! ### Engines (chapter 4) -/

/-- The state of an engine (R77). -/
inductive EngineState where
  | available
  | bound
  | loading
  | running
  | held
  | saving
  | scrub
  | offline
  deriving DecidableEq, Repr

/-- The channel an engine serves, and how (R76). -/
inductive Binding where
  | none
  | dynamic (c : ChanIx)
  | pinned (c : ChanIx)
  deriving DecidableEq, Repr

/-- The context part an engine holds (R8, R76). The working copy stands under the engine's self-check, the resident copy
under a check code (R7). -/
inductive Part where
  | none
  | working (n : StreamIx) (w : Which) (value : PartValue)
  | resident (n : StreamIx) (w : Which) (copy : Copy)
  deriving DecidableEq, Repr

/-- One engine's record (R76). Its uncorrected count is its bank's. -/
structure Engine where
  state : EngineState
  binding : Binding
  part : Part
  job : Option Nat
  saveInProgress : Bool
  offlineDue : Bool
  deriving DecidableEq, Repr

/-- An engine after Power-on (R97). -/
def freshEngine : Engine :=
  { state := .available, binding := .none, part := .none, job := none, saveInProgress := false, offlineDue := false }

/-! ### The buffer store (chapter 5) -/

/-- The state of a handle (R100). -/
inductive HandleState where
  | free
  | allocated
  | pending
  deriving DecidableEq, Repr

/-- Who made a buffer (R100). -/
inductive Origin where
  | host
  | auto
  deriving DecidableEq, Repr

/-- One entry of the handle table (R100). The block count is the length of the block list. -/
structure Buffer where
  state : HandleState
  origin : Origin
  size : Nat
  blocks : List Nat
  maximum : Nat
  ownerTag : Nat
  useCount : Nat
  inputLocked : Bool
  outputLocked : Bool
  deriving DecidableEq, Repr

/-- A FREE entry holds none of the other fields (R100).
DEDUCED, log 37. -/
def freeBuffer : Buffer :=
  { state := .free, origin := .host, size := 0, blocks := [], maximum := 0, ownerTag := 0, useCount := 0
    inputLocked := false, outputLocked := false }

/-- The buffer store (R98 to R102, R112). `mem` holds the 32768 bytes by address 64 × block + place, `levels` the error
levels of the 4096 words by address ÷ 8, each as a rising list without the value an unlisted address reads as: 00H and
clean. `handles` holds handle h at place h − 1. -/
structure Store where
  mem : List Host.Cell
  levels : List (Nat × ErrLevel)
  handles : Vector Buffer 48
  freeCount : Nat
  reserve : Nat
  waitQueue : List ChanIx
  deriving DecidableEq, Repr

/-- The store after a reset (R116).
DESIGN CHOICE, log 28. -/
def emptyStore : Store :=
  { mem := [], levels := [], handles := Vector.replicate 48 freeBuffer, freeCount := 512, reserve := 16
    waitQueue := [] }

/-! ### Fault banks (chapter 7) -/

/-- The severity of an error (R141). -/
inductive Severity where
  | corrected
  | uncorrected
  deriving DecidableEq, Repr

/-- The kind of an error (R141). -/
inductive FaultKind where
  | blockData
  | context
  | internal
  deriving DecidableEq, Repr

/-- Where an error was found (R141). -/
inductive Site where
  | block (handle : Nat) (offset : Nat)
  | stream (n : StreamIx)
  deriving DecidableEq, Repr

/-- One error record (R140); it is also one arrival (R141). `site` absent is where-valid clear. -/
structure FaultRecord where
  severity : Severity
  kind : FaultKind
  site : Option Site
  tag : Option Nat
  deriving DecidableEq, Repr

/-- One fault bank (R140). `record` present is VALID set. -/
structure Bank where
  record : Option FaultRecord
  overflow : Bool
  corrected : Nat
  uncorrected : Nat
  maskCorrected : Bool
  maskUncorrected : Bool
  deriving DecidableEq, Repr

/-- A bank after Power-on (R150). -/
def clearedBank : Bank :=
  { record := none, overflow := false, corrected := 0, uncorrected := 0, maskCorrected := false
    maskUncorrected := false }

/-- What an engine may still find at the moment at which its job ended (R138, R145, R146): a fault of its working copy, or
an error of the input word whose read was due. -/
inductive Finding where
  | selfCheck
  | inputWord (handle : Nat) (offset : Nat)
  deriving DecidableEq, Repr

/-- One finding that is open since the end of a job, with the engine, and the channel and tag of that job.
DESIGN CHOICE, log 43. -/
structure Late where
  engine : EngineIx
  channel : ChanIx
  tag : Nat
  finding : Finding
  deriving DecidableEq, Repr

/-! ### The stall watch (chapter 7) -/

/-- One channel's stall watch (R133). A timer that is stopped is `none`; a running one holds its milliseconds. -/
structure Watch where
  warn : Nat
  limit : Nat
  timer : Option Nat
  warnTaken : Bool
  clock : Option Nat
  deriving DecidableEq, Repr

/-- A stall watch after a reset (R150). -/
def resetWatch : Watch := { warn := 100, limit := 1000, timer := none, warnTaken := false, clock := none }

/-! ### Reports (chapter 6) -/

/-- The contents of a JOB END (R119). -/
structure JobEndInfo where
  tag : Nat
  channel : ChanIx
  stream : StreamIx
  phase : Phase
  outcome : JobState
  reason : Reason
  leadBytes : Nat
  bytesIn : Nat
  bytesOut : Nat
  autoHandle : Nat
  checkValue : Option Quad
  verify : Verify
  oddTail : Bool
  warned : Bool
  streamFaulted : Bool
  silentCount : Nat
  deriving DecidableEq, Repr

/-- The contents of a FAULT NOTICE (R120). -/
structure FaultInfo where
  bank : BankIx
  record : Option FaultRecord
  overflow : Bool
  corrected : Nat
  uncorrected : Nat
  deriving DecidableEq, Repr

/-- The contents of a WATCH NOTICE (R121). -/
structure WatchInfo where
  channel : ChanIx
  tag : Nat
  jobState : JobState
  elapsed : Nat
  deriving DecidableEq, Repr

/-- The three kinds of report (section 6.2). -/
inductive ReportBody where
  | jobEnd (info : JobEndInfo)
  | faultNotice (info : FaultInfo)
  | watchNotice (info : WatchInfo)
  deriving DecidableEq, Repr

/-- One report in the outbox, with its number and its send-due mark (R117). -/
structure Report where
  number : Byte
  body : ReportBody
  sendDue : Bool
  deriving DecidableEq, Repr

/-- The Report Unit (R117). `retryPeriod` is in units of 10 ms; 0 means no retry. -/
structure Reports where
  outbox : List Report
  nextNumber : Byte
  retryPeriod : Nat
  retryTimer : Option Nat
  retryCount : Nat
  faultPending : Vector Bool 7
  watchPending : Vector (Option Nat) 4
  jobEndPtr : ChanIx
  deriving DecidableEq, Repr

/-- The Report Unit after Power-on (R132). -/
def freshReports : Reports :=
  { outbox := [], nextNumber := 0, retryPeriod := 20, retryTimer := none, retryCount := 0
    faultPending := Vector.replicate 7 false, watchPending := Vector.replicate 4 none, jobEndPtr := 0 }

/-! ### The host link (chapter 8) -/

/-- The two link forms (R151). -/
inductive LinkForm where
  | uart
  | spi
  deriving DecidableEq, Repr

/-- The link state (R157): CLOSED, OPEN, QUIET. -/
inductive LinkState where
  | closed
  | opened
  | quiet
  deriving DecidableEq, Repr

/-- The receiver (R154): HUNTING, or IN-FRAME with the bytes stored since SYNC; their number and the LEN among them give
the field awaited next. -/
inductive Receiver where
  | hunting
  | inFrame (stored : List Byte)
  deriving DecidableEq, Repr

/-- A frame without SYNC, LEN and CHECK, which follow from the rest (R153). -/
structure Frame where
  seq : Byte
  kind : Byte
  payload : List Byte
  deriving DecidableEq, Repr

/-- The reason of a RESYNC notice (R160). -/
inductive ResyncReason where
  | check
  | full
  | order
  deriving DecidableEq, Repr

/-- What a frame of the transmitter's reply list is: a reply of the decoder, the LINK OPEN reply whose sending releases
the reports (R163), the RESET reply whose sending resets the part (R167), or a NOT-OPEN reply (R161). -/
inductive ReplyRole where
  | ordinary
  | linkOpen
  | reset
  | notOpen
  deriving DecidableEq, Repr

/-- One reply frame waiting in the transmitter or kept in the reply cache (R159, R165). -/
structure Reply where
  frame : Frame
  role : ReplyRole
  deriving DecidableEq, Repr

/-- What the frame being sent is (R166). -/
inductive Source where
  | resync
  | reply (role : ReplyRole)
  | report (number : Byte)
  deriving DecidableEq, Repr

/-- The frame being sent (R166). -/
structure Outgoing where
  source : Source
  frame : Frame
  deriving DecidableEq, Repr

/-- The Host Link Controller (chapter 8). `holdReports` is set from the acceptance of a LINK OPEN until its reply has been
sent in full (R166). -/
structure Link where
  form : LinkForm
  state : LinkState
  receiver : Receiver
  gapTimer : Option Nat
  expected : Byte
  inbox : List Frame
  cache : List Reply
  resync : Option ResyncReason
  replies : List Reply
  sending : Option Outgoing
  holdReports : Bool
  deriving DecidableEq, Repr

/-- The Host Link Controller at the end of start-up, in UART form (R168).
DESIGN CHOICE, log 11. -/
def resetLink : Link :=
  { form := .uart, state := .closed, receiver := .hunting, gapTimer := none, expected := 0, inbox := []
    cache := [], resync := none, replies := [], sending := none, holdReports := false }

/-- Why the decoder is busy with a request whose reply is not yet built (R164): saves of a STREAM MOVE to a channel, the
save of an UNPIN, the save of an OFFLINE, a JOB ABORT on the LOADING job of a channel, a STREAM QUERY on a stream with a
job in SAVING, or a stream request on a stream with a part in a swap save. -/
inductive Hold where
  | move (n : StreamIx) (c : ChanIx)
  | unpin (e : EngineIx)
  | offline (e : EngineIx)
  | abort (c : ChanIx)
  | savingQuery
  | swapSave
  deriving DecidableEq, Repr

/-- The Request Decoder (R164): idle, busy with a request (`discard` set when a LINK OPEN has been accepted meanwhile,
R162), or stopped by a RESET request (R167). -/
inductive Decoder where
  | idle
  | busy (request : Frame) (hold : Hold) (discard : Bool)
  | resetting
  deriving DecidableEq, Repr

/-- Where the part stands towards RESETN and start-up (R168): held in reset, starting up, or running. -/
inductive Stage where
  | held
  | startUp
  | running
  deriving DecidableEq, Repr

/-! ### The machine -/

/-- The state of the part. Two fields are the model's: `pending`, the queue of commands that wait, first in, first out, and
`late`, the findings that are open at the present moment; everything else is the spec's.
DESIGN CHOICE, log 1 and 43. -/
structure State where
  pending : List Instr
  stage : Stage
  link : Link
  decoder : Decoder
  streams : Vector Stream 16
  nextTag : Nat
  channels : Vector Channel 4
  engines : Vector Engine 6
  grantPtr : ChanIx
  store : Store
  reports : Reports
  watches : Vector Watch 4
  banks : Vector Bank 7
  late : List Late
  deriving DecidableEq, Repr

/-- The reasons a step could fault. The spec names no event that stops the part: every error it finds becomes a reply, a
report or a bank record. So no meaning raises this one, which only gives the type a member; raising it would be safe.
DEDUCED, log 5. -/
inductive Fault where
  /-- Raised by no meaning (safe). -/
  | partStopped
  deriving DecidableEq, Repr

/-- The reasons a step can refuse. -/
inductive Refusal where
  /-- Raised by exec for a command that has no meaning yet (safe): none is left. -/
  | notModelled (mnemonic : String)
  deriving DecidableEq, Repr

/-- The part right after Power-on (the Power-on column of every Initial state table), start-up begun (R168).
DESIGN CHOICE, log 11. -/
def State.reset : State :=
  { pending := []
    stage := .startUp
    link := resetLink
    decoder := .idle
    streams := Vector.replicate 16 freeStream
    nextTag := 1
    channels := Vector.replicate 4 emptyChannel
    engines := Vector.replicate 6 freshEngine
    grantPtr := 0
    store := emptyStore
    reports := freshReports
    watches := Vector.replicate 4 resetWatch
    banks := Vector.replicate 7 clearedBank
    late := [] }

end Sys2Proof.Machine
end

