-- ==== Sys2Proof/Machine/Ops.lean ====
section
/-! DEFINITION. The named operations over the state: sparse memories in canonical form, the entry of each table and its
update, the head job of a channel, progress, and the passing of time. No other file updates a table entry by hand. -/

namespace Sys2Proof.Machine

/-! ### Sparse memories -/

/-- What an address reads as: its entry, or the default where no entry lists it. -/
def sparseGet {α : Type} (d : α) : List (Nat × α) → Nat → α
  | [], _ => d
  | (k', v) :: rest, k => if k = k' then v else sparseGet d rest k

/-- The write of one address. The list stays rising, and the default is never listed. -/
def sparseSet {α : Type} [DecidableEq α] (d : α) : List (Nat × α) → Nat → α → List (Nat × α)
  | [], k, v => if v = d then [] else [(k, v)]
  | (k', v') :: rest, k, v =>
    if k < k' then (if v = d then (k', v') :: rest else (k, v) :: (k', v') :: rest)
    else if k = k' then (if v = d then rest else (k, v) :: rest)
    else (k', v') :: sparseSet d rest k v

/-- Every address that `p` picks reads as the default again. -/
def sparseDrop {α : Type} (p : Nat → Bool) (m : List (Nat × α)) : List (Nat × α) :=
  m.filter (fun cell => !p cell.1)

/-- The canonical form: addresses strictly rising and below the bound, no entry equal to the default. -/
def sparseWf {α : Type} [DecidableEq α] (d : α) (bound : Nat) : List (Nat × α) → Bool
  | [] => true
  | (k, v) :: rest =>
    decide (k < bound) && decide (v ≠ d) && rest.all (fun cell => decide (k < cell.1)) && sparseWf d bound rest

/-! ### Numbers of the part's tables -/

/-- The four channels in number order. -/
def allChannels : List ChanIx := [0, 1, 2, 3]

/-- The six engines in number order (R76). -/
def allEngines : List EngineIx := [0, 1, 2, 3, 4, 5]

/-- The sixteen streams in number order. -/
def allStreams : List StreamIx := [0, 1, 2, 3, 4, 5, 6, 7, 8, 9, 10, 11, 12, 13, 14, 15]

/-- The seven banks in number order. -/
def allBanks : List BankIx := [0, 1, 2, 3, 4, 5, 6]

/-- Bank n belongs to engine n (R140). -/
def engineBank (e : EngineIx) : BankIx := ⟨e.val, by omega⟩

/-- The kind of an engine is fixed by its number (R76). -/
def engineKind (e : EngineIx) : Kind :=
  if e.val ≤ 1 then .delta else if e.val = 2 then .run else if e.val = 3 then .whiten else .check

/-- The channels in the order p, p + 1, p + 2, p + 3, mod 4 (R84, R123). -/
def channelsFrom (p : ChanIx) : List ChanIx := [p, p + 1, p + 2, p + 3]

/-! ### Table entries -/

/-- The entry of a stream (R1). -/
def State.stream (s : State) (n : StreamIx) : Stream := s.streams.get n

/-- A stream entry replaced. -/
def State.setStream (s : State) (n : StreamIx) (x : Stream) : State := { s with streams := s.streams.set n x }

/-- The channel sequencer of a channel. -/
def State.channel (s : State) (c : ChanIx) : Channel := s.channels.get c

/-- A channel sequencer replaced. -/
def State.setChannel (s : State) (c : ChanIx) (x : Channel) : State := { s with channels := s.channels.set c x }

/-- The record of an engine (R76). -/
def State.engine (s : State) (e : EngineIx) : Engine := s.engines.get e

/-- An engine record replaced. -/
def State.setEngine (s : State) (e : EngineIx) (x : Engine) : State := { s with engines := s.engines.set e x }

/-- The stall watch of a channel (R133). -/
def State.watch (s : State) (c : ChanIx) : Watch := s.watches.get c

/-- A stall watch replaced. -/
def State.setWatch (s : State) (c : ChanIx) (x : Watch) : State := { s with watches := s.watches.set c x }

/-- A fault bank (R140). -/
def State.bank (s : State) (b : BankIx) : Bank := s.banks.get b

/-- A fault bank replaced. -/
def State.setBank (s : State) (b : BankIx) (x : Bank) : State := { s with banks := s.banks.set b x }

/-- The buffer store replaced. -/
def State.setStore (s : State) (x : Store) : State := { s with store := x }

/-- The Report Unit replaced. -/
def State.setReports (s : State) (x : Reports) : State := { s with reports := x }

/-- The Host Link Controller replaced. -/
def State.setLink (s : State) (x : Link) : State := { s with link := x }

/-- The Request Decoder replaced. -/
def State.setDecoder (s : State) (x : Decoder) : State := { s with decoder := x }

/-- Set or clear a bank's fault notice pending flag, kept in the Report Unit (R120). -/
def State.setFaultPending (s : State) (b : BankIx) (p : Bool) : State :=
  s.setReports { s.reports with faultPending := s.reports.faultPending.set b p }

/-- Write a channel's watch notice pending item (R121). -/
def State.setWatchPending (s : State) (c : ChanIx) (t : Option Nat) : State :=
  s.setReports { s.reports with watchPending := s.reports.watchPending.set c t }

/-! ### The handle table -/

/-- The entry of a handle. Handle 0 means no buffer, and a number above 48 names none (R100); both read as FREE. -/
def Store.buffer (st : Store) : Nat → Buffer
  | 0 => freeBuffer
  | k + 1 => st.handles[k]?.getD freeBuffer

/-- The entry of a handle replaced; no entry stands under 0 or above 48. -/
def Store.setBuffer (st : Store) (h : Nat) (b : Buffer) : Store :=
  match h with
  | 0 => st
  | k + 1 => { st with handles := st.handles.setIfInBounds k b }

/-- The handles in number order (R100). -/
def allHandles : List Nat := List.range' 1 48

/-- The lowest-numbered FREE handle (R100). -/
def Store.freeHandle (st : Store) : Option Nat := allHandles.find? (fun h => (st.buffer h).state == .free)

/-! ### Jobs -/

/-- A live job (R48). -/
def JobState.live : JobState → Bool
  | .queued | .waiting | .loading | .running | .held | .saving => true
  | .done | .failed | .aborted | .cancelled => false

/-- A working state (R48). -/
def JobState.working : JobState → Bool
  | .loading | .running | .held | .saving => true
  | .queued | .waiting | .done | .failed | .aborted | .cancelled => false

/-- WHOLE and LAST finalize the record (R25, R51). -/
def Phase.final : Phase → Bool
  | .whole | .last => true
  | .first | .middle => false

/-- WHOLE and FIRST start from initial values (R11, R25). -/
def Phase.initializing : Phase → Bool
  | .whole | .first => true
  | .middle | .last => false

/-- The record state a phase needs (R2, R15). -/
def Phase.needs : Phase → RecordState
  | .whole | .first => .atRest
  | .middle | .last => .inRecord

/-- The record state a phase leads to (R2, R15). -/
def Phase.endState : Phase → RecordState
  | .whole | .last => .atRest
  | .first | .middle => .inRecord

/-- The head job of a channel: its oldest entry (R55). -/
def State.head (s : State) (c : ChanIx) : Option Job := (s.channel c).queue.head?

/-- The head job of a channel when it is in this state. -/
def State.headIn (s : State) (c : ChanIx) (st : JobState) : Option Job :=
  (s.head c).filter (fun j => j.state == st)

/-- The jobs of a channel with this tag updated; tags are unique (R49). -/
def State.modJob (s : State) (c : ChanIx) (tag : Nat) (f : Job → Job) : State :=
  s.setChannel c { s.channel c with
    queue := (s.channel c).queue.map (fun j => if j.tag = tag then f j else j) }

/-- The jobs present in the four queues (R49). -/
def State.jobs (s : State) : List Job := allChannels.flatMap (fun c => (s.channel c).queue)

/-- The live jobs (R48). -/
def State.liveJobs (s : State) : List Job := s.jobs.filter (fun j => j.state.live)

/-- The job that carries this tag, if one is present (R49, R68). -/
def State.findJob (s : State) (tag : Nat) : Option Job := s.jobs.find? (fun j => j.tag = tag)

/-- Whether a job of the stream stands in one of these states. -/
def State.streamHasJob (s : State) (n : StreamIx) (p : JobState → Bool) : Bool :=
  s.jobs.any (fun j => decide (j.stream = n) && p j.state)

/-! ### Progress and time -/

/-- A progress event of the channel's head job: a running timer starts again from 0 (R134, R135). -/
def State.progress (s : State) (c : ChanIx) : State :=
  match (s.watch c).timer with
  | some _ => s.setWatch c { s.watch c with timer := some 0, warnTaken := false }
  | none => s

/-- One timer after this many milliseconds; a stopped timer stays stopped. -/
def elapse (ms : Nat) (t : Option Nat) : Option Nat := t.map (· + ms)

/-- A stall watch after this many milliseconds (R133). -/
def Watch.after (w : Watch) (ms : Nat) : Watch := { w with timer := elapse ms w.timer, clock := elapse ms w.clock }

/-- The findings that are open at the present moment replaced. -/
def State.setLate (s : State) (l : List Late) : State := { s with late := l }

/-- This many milliseconds pass: every running timer of the part counts them (section 5.4 of the scope file), and what was
open at the moment that has passed is open no more.
DESIGN CHOICE, log 2 and 43. -/
def State.advance (s : State) (ms : Nat) : State :=
  let s := s.setLate (if ms = 0 then s.late else [])
  let s := s.setLink { s.link with gapTimer := elapse ms s.link.gapTimer }
  let s := s.setReports { s.reports with retryTimer := elapse ms s.reports.retryTimer }
  allChannels.foldl (fun s c => s.setWatch c ((s.watch c).after ms)) s

/-- An expiry is no earlier than its period after the timer's start (section 5.4): where a running timer shows less, the
time that is missing has passed.
DESIGN CHOICE, log 8. -/
def State.catchUp (s : State) (timer : Option Nat) (period : Nat) : State :=
  match timer with
  | some t => s.advance (period - t)
  | none => s

end Sys2Proof.Machine
end

