-- ==== Sys2Proof/Machine/BufferStore.lean ====
section
/-! DEFINITION. The buffer store (chapter 5): bytes and words under their codes, blocks, the handle table's counts and
locks. Physical byte address 64 × block + place; word address ÷ 8. -/

namespace Sys2Proof.Machine

/-! ### Bytes and words (R98) -/

/-- The physical address of a buffer byte (R98), or none where the buffer holds no such block. -/
def Buffer.address (b : Buffer) (o : Nat) : Option Nat := b.blocks[o / 64]?.map (fun blk => 64 * blk + o % 64)

/-- The stored byte at a physical address. -/
def Store.byteAt (st : Store) (a : Nat) : Byte := sparseGet 0 st.mem a

/-- The error level of a word (R98). -/
def Store.levelAt (st : Store) (w : Nat) : ErrLevel := sparseGet .clean st.levels w

/-- A word's level replaced. -/
def Store.setLevel (st : Store) (w : Nat) (l : ErrLevel) : Store :=
  { st with levels := sparseSet .clean st.levels w l }

/-- The eight bytes of a word set to 00H. -/
def Store.zeroWord (st : Store) (w : Nat) : Store := { st with mem := sparseDrop (fun a => a / 8 == w) st.mem }

/-- One byte written at a physical address (R98): the word's other bytes keep their value, or become 00H where the word
was uncorrectable; the word becomes clean. -/
def Store.storeByte (st : Store) (a : Nat) (v : Byte) : Store :=
  let w := a / 8
  let st := if st.levelAt w = .uncorrectable then st.zeroWord w else st
  { st with mem := sparseSet 0 st.mem a v, levels := sparseSet .clean st.levels w .clean }

/-- One buffer byte written. -/
def Store.writeAt (st : Store) (h o : Nat) (v : Byte) : Store :=
  match (st.buffer h).address o with
  | some a => if a < 32768 then st.storeByte a v else st
  | none => st

/-- Bytes written to a buffer from an offset onward, in order (R98, R104). -/
def Store.writeBytes (st : Store) (h o : Nat) : List Byte → Store
  | [] => st
  | v :: rest => (st.writeAt h o v).writeBytes h (o + 1) rest

/-- The byte a buffer holds at an offset; a read of it goes through the code (R98). -/
def Store.readAt (st : Store) (h o : Nat) : Byte := ((st.buffer h).address o).elim 0 st.byteAt

/-- The level of the word that holds a buffer byte. -/
def Store.levelOf (st : Store) (h o : Nat) : ErrLevel :=
  ((st.buffer h).address o).elim .clean (fun a => st.levelAt (a / 8))

/-- A correctable word read through the code and written back clean (R98). -/
def Store.correctAt (st : Store) (h o : Nat) : Store :=
  match (st.buffer h).address o with
  | some a => st.setLevel (a / 8) .clean
  | none => st

/-- An error event on a word: its level rises by one step (R98). -/
def raiseLevel : ErrLevel → ErrLevel
  | .clean => .correctable
  | .correctable => .uncorrectable
  | .uncorrectable => .uncorrectable

/-! ### Blocks (R99) -/

/-- Blocks for this many bytes. -/
def blocksFor (size : Nat) : Nat := (size + 63) / 64

/-- The blocks held by buffers. -/
def Store.heldBlocks (st : Store) : List Nat := st.handles.toList.flatMap (·.blocks)

/-- The first number from b onward, at most n numbers on, that is not in the list. -/
def lowestOutside (used : List Nat) : Nat → Nat → Nat
  | 0, b => b
  | n + 1, b => if used.contains b then lowestOutside used n (b + 1) else b

/-- The lowest-numbered free block (R99). -/
def Store.lowestFree (st : Store) : Nat := lowestOutside st.heldBlocks 512 0

/-- A block cleared: 00H in all 64 bytes, every word clean (R99). -/
def Store.clearBlock (st : Store) (blk : Nat) : Store :=
  { st with
    mem := sparseDrop (fun a => a / 64 == blk) st.mem
    levels := sparseDrop (fun w => w / 8 == blk) st.levels }

/-- A cleared block appended to a buffer's list (R99, R112). -/
def Store.appendBlock (st : Store) (h blk : Nat) : Store :=
  let st := st.clearBlock blk
  st.setBuffer h { st.buffer h with blocks := (st.buffer h).blocks ++ [blk] }

/-- The lowest free block handed to a buffer; the free count falls by 1 (R99, R111). A FREE entry holds no blocks (R100). -/
def Store.takeBlock (st : Store) (h : Nat) : Store :=
  if (st.buffer h).state = .free then st
  else { st.appendBlock h st.lowestFree with freeCount := st.freeCount - 1 }

/-- This many blocks handed to a buffer (R103). -/
def Store.takeBlocks (st : Store) (h : Nat) : Nat → Store
  | 0 => st
  | n + 1 => (st.takeBlock h).takeBlocks h n

/-! ### Use counts and locks (R101) -/

/-- Each member of a list once. -/
def distinct : List Nat → List Nat
  | [] => []
  | h :: rest => if (distinct rest).contains h then distinct rest else h :: distinct rest

/-- The handles a job names, each once (R101). -/
def Job.handles (j : Job) : List Nat := distinct (j.operands.map (·.handle))

/-- PREFIX and DATA name input buffers (R52). -/
def Role.isInput : Role → Bool
  | .lead | .data => true
  | .out | .checkOut => false

/-- Whether the job names the buffer in an input role (true) or in an output role (false). -/
def Job.names (j : Job) (h : Nat) (input : Bool) : Bool :=
  j.operands.any (fun op => op.handle == h && op.role.isInput == input)

/-- The two locks of a buffer formed anew from these live jobs (R101). -/
def Store.formLocks (st : Store) (live : List Job) (h : Nat) : Store :=
  st.setBuffer h { st.buffer h with
    inputLocked := live.any (·.names h true), outputLocked := live.any (·.names h false) }

/-- The hold of one job on a buffer taken at acceptance (R53, R101). -/
def Store.claimBuffer (j : Job) (st : Store) (h : Nat) : Store :=
  let b := st.buffer h
  st.setBuffer h { b with
    useCount := b.useCount + 1
    inputLocked := b.inputLocked || j.names h true
    outputLocked := b.outputLocked || j.names h false }

/-- The hold of one ended job on a buffer released; the live jobs are those that remain (R62, R101). -/
def Store.dropBuffer (live : List Job) (st : Store) (h : Nat) : Store :=
  let st := st.setBuffer h { st.buffer h with useCount := (st.buffer h).useCount - 1 }
  st.formLocks live h

/-- A PENDING buffer kept for the host when its job ends DONE (R114). -/
def Store.keepAuto (st : Store) (h : Nat) : Store :=
  st.setBuffer h { st.buffer h with state := .allocated, maximum := 0, ownerTag := 0 }

end Sys2Proof.Machine
end

