-- ==== Sys2Proof/Machine/ReportUnit.lean ====
section
/-! DEFINITION. The Report Unit (chapter 6): entry of reports, the slot arbiter, the retry timer, and what it does when the
link state changes. -/

namespace Sys2Proof.Machine

/-! ### Send-due marks and the retry timer -/

/-- Every outstanding report with its send-due mark set or cleared (R126). -/
def markReports (due : Bool) (outbox : List Report) : List Report := outbox.map (fun r => { r with sendDue := due })

/-- The three conditions under which the retry timer runs (R127). -/
def retryConditions (link : LinkState) (period : Nat) (outbox : List Report) : Bool :=
  link == .opened && period != 0 && !outbox.isEmpty

/-- The retry timer as a start from 0 leaves it: running where the three conditions hold, else stopped (R127). -/
def startedRetry (link : LinkState) (period : Nat) (outbox : List Report) : Option Nat :=
  if retryConditions link period outbox then some 0 else none

/-- The oldest outstanding number, or the next number when none is outstanding (R125, R129, R163). -/
def Reports.oldest (r : Reports) : Byte := (r.outbox.head?.map (·.number)).getD r.nextNumber

/-! ### Entry of a report (R118) -/

/-- A report enters the outbox: it takes the next number, is marked send-due in OPEN, and starts the retry timer of an
outbox that was empty (R118). -/
def State.enterReport (s : State) (body : ReportBody) : State :=
  let r := s.reports
  let report : Report := { number := r.nextNumber, body := body, sendDue := s.link.state == .opened }
  let outbox := r.outbox ++ [report]
  s.setReports { r with
    outbox := outbox
    nextNumber := r.nextNumber + 1
    retryTimer := if r.outbox.isEmpty then startedRetry s.link.state r.retryPeriod outbox else r.retryTimer }

/-- The contents of a FAULT NOTICE: a snapshot of the bank (R120). FAULT READ gives the same (R176). -/
def State.faultInfo (s : State) (b : BankIx) : FaultInfo :=
  let x := s.bank b
  { bank := b, record := x.record, overflow := x.overflow && x.record.isSome, corrected := x.corrected
    uncorrected := if b.val < 6 then x.uncorrected else 0 }

/-- The contents of a JOB END of this ended job (R119).
DEDUCED, log 38. -/
def jobEndInfo (j : Job) (silent : Nat) : JobEndInfo :=
  { tag := j.tag, channel := j.channel, stream := j.stream, phase := j.phase, outcome := j.state, reason := j.reason
    leadBytes := j.leadFed, bytesIn := j.dataConsumed, bytesOut := j.outWritten, autoHandle := j.autoHandle
    checkValue := if j.state = .done then j.checkValue else none
    verify := j.verify, oddTail := j.oddTail, warned := j.warned, streamFaulted := j.streamFaulted
    silentCount := silent }

/-! ### The slot arbiter (R122, R123) -/

/-- One claim on the slot arbiter (R122). -/
inductive Claim where
  | fault (b : BankIx)
  | watch (c : ChanIx) (tag : Nat)
  | jobEnd (c : ChanIx) (j : Job)
  deriving DecidableEq, Repr

/-- The watch notice pending for a channel, as a claim (R121). -/
def State.watchClaim (s : State) (c : ChanIx) : Option Claim :=
  (s.reports.watchPending.get c).map (Claim.watch c)

/-- The JOB END claim of a channel (R67). -/
def State.jobEndClaim (s : State) (c : ChanIx) : Option Claim :=
  if (s.channel c).claim then (s.head c).map (Claim.jobEnd c) else none

/-- The first claim in the order of R123: fault notices, lowest bank first; watch notices, lowest channel first; job
ends, round robin from the job end pointer. -/
def State.firstClaim (s : State) : Option Claim :=
  ((allBanks.find? (fun b => s.reports.faultPending.get b)).map Claim.fault).or
    ((allChannels.findSome? s.watchClaim).or ((channelsFrom s.reports.jobEndPtr).findSome? s.jobEndClaim))

/-- The grant of a claim: its report enters the outbox and its source moves on (R118).
DEDUCED, log 41. -/
def State.grantClaim (s : State) : Claim → State
  | .fault b => (s.enterReport (.faultNotice (s.faultInfo b))).setFaultPending b false
  | .watch c tag =>
    let st := ((s.head c).map (·.state)).getD .loading
    let elapsed := min ((s.watch c).clock.getD 0) 65535
    (s.enterReport (.watchNotice { channel := c, tag := tag, jobState := st, elapsed := elapsed })).setWatchPending
      c none
  | .jobEnd c j =>
    let ch := s.channel c
    let s := s.enterReport (.jobEnd (jobEndInfo j ch.silent))
    let s := s.setReports { s.reports with jobEndPtr := c + 1 }
    s.setChannel c { ch with queue := ch.queue.tail, silent := 0, claim := false }

/-- Whether the arbiter has a slot to fill and a claim to fill it with (R122). -/
def State.canGrant (s : State) : Bool := decide (s.reports.outbox.length < 16) && s.firstClaim.isSome

/-- One slot filled by the first claim, where the outbox holds fewer than 16 reports and a claim stands (R122). -/
def State.grantStep (s : State) : State :=
  if s.reports.outbox.length < 16 then
    match s.firstClaim with
    | some c => s.grantClaim c
    | none => s
  else s

/-! ### Changes of the link state (R130) -/

/-- The link enters OPEN: retry count 0, every outstanding report marked, the timer started if any is outstanding. -/
def State.enterOpen (s : State) : State :=
  let r := s.reports
  let s := s.setLink { s.link with state := .opened }
  s.setReports { r with
    outbox := markReports true r.outbox
    retryCount := 0
    retryTimer := startedRetry .opened r.retryPeriod r.outbox }

/-- The sixth expiry: the link enters QUIET, every mark is cleared and the timer stops (R128, R130). -/
def State.enterQuiet (s : State) : State :=
  let r := s.reports
  let s := s.setLink { s.link with state := .quiet }
  s.setReports { r with outbox := markReports false r.outbox, retryCount := 6, retryTimer := none }

end Sys2Proof.Machine
end

