-- ==== Sys2Proof/Machine/FaultBanks.lean ====
section
/-! DEFINITION. Arrivals at the fault banks (R141 to R145). -/

namespace Sys2Proof.Machine

/-- A count that is held at 255 (R140, R142; the silent count of R73 likewise). -/
def bump255 (n : Nat) : Nat := min (n + 1) 255

/-- Step 1 of an arrival: the counts, whatever the masks (R142). Bank 6 has no uncorrected count. -/
def countArrival (b : BankIx) (a : FaultRecord) (x : Bank) : Bank :=
  match a.severity with
  | .corrected => { x with corrected := bump255 x.corrected }
  | .uncorrected => if b.val < 6 then { x with uncorrected := bump255 x.uncorrected } else x

/-- Step 2: whether the mask of the arrival's severity is set (R142). -/
def masked (a : FaultRecord) (x : Bank) : Bool :=
  match a.severity with
  | .corrected => x.maskCorrected
  | .uncorrected => x.maskUncorrected

/-- Step 3: the record after an unmasked arrival, and whether the record was written or overwritten (R142). -/
def recordArrival (a : FaultRecord) (x : Bank) : Bank × Bool :=
  match x.record with
  | none => ({ x with record := some a, overflow := false }, true)
  | some r =>
    if r.severity = .corrected ∧ a.severity = .uncorrected then ({ x with record := some a, overflow := true }, true)
    else ({ x with overflow := true }, false)

/-- Whether an arrival gives the automatic offline trigger, by the bank after its count step (R143). -/
def givesTrigger (b : BankIx) (a : FaultRecord) (counted : Bank) : Bool :=
  decide (b.val < 6) && a.severity == .uncorrected && (a.kind == .internal || decide (3 ≤ counted.uncorrected))

/-- One arrival at a bank (R142, R143): counts, trigger, mask, record, pending flag; then the slot arbiter acts on a claim
made while a slot is free (R122).
DEDUCED, log 15. -/
def State.arrive (s : State) (b : BankIx) (a : FaultRecord) : State :=
  let counted := countArrival b a (s.bank b)
  let s := s.setBank b counted
  let s :=
    if h : b.val < 6 then
      let e : EngineIx := ⟨b.val, h⟩
      if givesTrigger b a counted then s.setEngine e { s.engine e with offlineDue := true } else s
    else s
  if masked a counted then s
  else
    let (recorded, written) := recordArrival a counted
    let s := s.setBank b recorded
    if written then (s.setFaultPending b true).grantStep else s

end Sys2Proof.Machine
end

