-- ==== Sys2Proof/Machine/Operands.lean ====
section
/-! DEFINITION. The fields of payloads: where they stand and how wide they are (R169), the code of each enumerated value
(R170), the status codes (section 9.2), and the checks on kinds, lengths and reserved positions (R171). -/

namespace Sys2Proof.Machine

/-! ### Field widths (R169) -/

/-- The byte at a payload offset. -/
def byteAt (p : List Byte) (i : Nat) : Byte := p.getD i 0

/-- The number of the byte at a payload offset. -/
def natAt (p : List Byte) (i : Nat) : Nat := (byteAt p i).toNat

/-- A 2-byte field, least significant byte first (R169). -/
def halfAt (p : List Byte) (i : Nat) : Half := byteAt p (i + 1) ++ byteAt p i

/-- A 4-byte field, least significant byte first (R169). -/
def quadAt (p : List Byte) (i : Nat) : Quad := halfAt p (i + 2) ++ halfAt p i

/-- A number as one byte. -/
def byteOf (n : Nat) : Byte := BitVec.ofNat 8 n

/-- The two bytes of a 2-byte field, least significant first (R169). -/
def halfBytes (v : Half) : List Byte := [v.setWidth 8, (v >>> 8).setWidth 8]

/-- The two bytes of a number in a 2-byte field. -/
def numBytes (n : Nat) : List Byte := halfBytes (BitVec.ofNat 16 n)

/-- The four bytes of a 4-byte field, least significant first (R169). -/
def quadBytes (v : Quad) : List Byte :=
  [v.setWidth 8, (v >>> 8).setWidth 8, (v >>> 16).setWidth 8, (v >>> 24).setWidth 8]

/-- This many reserved or unused bytes, sent as 0 (R169). -/
def zeroBytes (n : Nat) : List Byte := List.replicate n 0

/-! ### Table numbers carried by a byte -/

/-- A channel number, or none above 3. -/
def channelOf (b : Byte) : Option ChanIx := if h : b.toNat < 4 then some ⟨b.toNat, h⟩ else none

/-- A stream number, or none above 15. -/
def streamOf (b : Byte) : Option StreamIx := if h : b.toNat < 16 then some ⟨b.toNat, h⟩ else none

/-- An engine number, or none above 5. -/
def engineOf (b : Byte) : Option EngineIx := if h : b.toNat < 6 then some ⟨b.toNat, h⟩ else none

/-- A bank number, or none above 6. -/
def bankOf (b : Byte) : Option BankIx := if h : b.toNat < 7 then some ⟨b.toNat, h⟩ else none

/-! ### Status codes (section 9.2) -/

/-- The statuses of a reply. -/
inductive Status where
  | ok | unknownKind | badLength | badField | notOpen | busy | noSpace | noHandle | badHandle | badRange | locked
  | overlap | noStream | streamTaken | keyMismatch | wrongChannel | streamFaulted | phase | queueFull | badOperands
  | noJob | tooLate | badAck | dataError | engineState | pinnedKind | tableFull
  deriving DecidableEq, Repr

/-- The code of a status (section 9.2). -/
def statusCode : Status → Byte
  | .ok => 0x00 | .unknownKind => 0x01 | .badLength => 0x02 | .badField => 0x03 | .notOpen => 0x04 | .busy => 0x05
  | .noSpace => 0x06 | .noHandle => 0x07 | .badHandle => 0x08 | .badRange => 0x09 | .locked => 0x0A
  | .overlap => 0x0B | .noStream => 0x0C | .streamTaken => 0x0D | .keyMismatch => 0x0E | .wrongChannel => 0x0F
  | .streamFaulted => 0x10 | .phase => 0x11 | .queueFull => 0x12 | .badOperands => 0x13 | .noJob => 0x14
  | .tooLate => 0x15 | .badAck => 0x16 | .dataError => 0x17 | .engineState => 0x18 | .pinnedKind => 0x19
  | .tableFull => 0x1A

/-! ### Codes of enumerated fields (R170) -/

/-- Stream state and tail state. -/
def recordCode : RecordState → Byte
  | .free => 0x00 | .atRest => 0x01 | .inRecord => 0x02 | .faulted => 0x03

/-- Transform kind. -/
def kindCode : Kind → Byte
  | .delta => 0x00 | .run => 0x01 | .whiten => 0x02 | .check => 0x03

/-- The transform kind a code stands for. -/
def kindOf (b : Byte) : Option Kind :=
  match b.toNat with
  | 0 => some .delta | 1 => some .run | 2 => some .whiten | 3 => some .check | _ => none

/-- Secondary. -/
def secondaryCode : Secondary → Byte
  | .none => 0x00 | .check => 0x01

/-- The secondary a code stands for. -/
def secondaryOf (b : Byte) : Option Secondary :=
  match b.toNat with
  | 0 => some .none | 1 => some .check | _ => none

/-- Tap. -/
def tapCode : Tap → Byte
  | .input => 0x00 | .output => 0x01

/-- The tap a code stands for. -/
def tapOf (b : Byte) : Option Tap :=
  match b.toNat with
  | 0 => some .input | 1 => some .output | _ => none

/-- Check variant. -/
def variantCode : Variant → Byte
  | .crc16 => 0x00 | .crc32 => 0x01

/-- The check variant a code stands for. -/
def variantOf (b : Byte) : Option Variant :=
  match b.toNat with
  | 0 => some .crc16 | 1 => some .crc32 | _ => none

/-- Phase. -/
def phaseCode : Phase → Byte
  | .whole => 0x00 | .first => 0x01 | .middle => 0x02 | .last => 0x03

/-- The phase a code stands for. -/
def phaseOf (b : Byte) : Option Phase :=
  match b.toNat with
  | 0 => some .whole | 1 => some .first | 2 => some .middle | 3 => some .last | _ => none

/-- Job state, and the outcome of a JOB END. -/
def jobStateCode : JobState → Byte
  | .queued => 0x00 | .waiting => 0x01 | .loading => 0x02 | .running => 0x03 | .held => 0x04 | .saving => 0x05
  | .done => 0x06 | .failed => 0x07 | .aborted => 0x08 | .cancelled => 0x09

/-- End reason. -/
def reasonCode : Reason → Byte
  | .none => 0x00 | .outFull => 0x01 | .dataError => 0x02 | .contextError => 0x03 | .engineFault => 0x04
  | .stalled => 0x05 | .noEngine => 0x06 | .predecessor => 0x07 | .streamFaulted => 0x08

/-- Verify result. -/
def verifyCode : Verify → Byte
  | .none => 0x00 | .isMatch => 0x01 | .mismatch => 0x02

/-- The operand role a code stands for. -/
def roleOf (b : Byte) : Option Role :=
  match b.toNat with
  | 1 => some .lead | 2 => some .data | 3 => some .out | 4 => some .checkOut | _ => none

/-- Report mode. -/
def modeCode : Mode → Byte
  | .each => 0x00 | .marked => 0x01

/-- The report mode a code stands for. -/
def modeOf (b : Byte) : Option Mode :=
  match b.toNat with
  | 0 => some .each | 1 => some .marked | _ => none

/-- Engine state. -/
def engineStateCode : EngineState → Byte
  | .available => 0x00 | .bound => 0x01 | .loading => 0x02 | .running => 0x03 | .held => 0x04 | .saving => 0x05
  | .scrub => 0x06 | .offline => 0x07

/-- Which part. -/
def whichCode : Which → Byte
  | .primary => 0x00 | .check => 0x01

/-- Handle state. -/
def handleStateCode : HandleState → Byte
  | .free => 0x00 | .allocated => 0x01 | .pending => 0x02

/-- Handle origin. -/
def originCode : Origin → Byte
  | .host => 0x00 | .auto => 0x01

/-- Fault severity. -/
def severityCode : Severity → Byte
  | .corrected => 0x01 | .uncorrected => 0x02

/-- Fault kind. -/
def faultKindCode : FaultKind → Byte
  | .blockData => 0x01 | .context => 0x02 | .internal => 0x03

/-- RESYNC reason. -/
def resyncCode : ResyncReason → Byte
  | .check => 0x01 | .full => 0x02 | .order => 0x03

/-! ### Generic decoding (R171) -/

/-- The request kinds of section 9.2. -/
def requestKinds : List Byte :=
  [0x01, 0x03, 0x10, 0x11, 0x12, 0x13, 0x14, 0x15, 0x20, 0x21, 0x22, 0x23, 0x24, 0x25, 0x30, 0x31, 0x32, 0x33, 0x38,
   0x39, 0x3A, 0x3B, 0x3C, 0x40, 0x41, 0x48, 0x49, 0x4A, 0x4B]

/-- The allowed LEN of each kind (R171): BUF WRITE takes 5 to 240, JOB SUBMIT 13 + 6n for the n of its byte 12. -/
def lengthAllowed (f : Frame) : Bool :=
  let len := f.payload.length
  match f.kind.toNat with
  | 0x01 | 0x03 => len == 0
  | 0x10 | 0x32 | 0x38 | 0x4B => len == 2
  | 0x11 => decide (5 ≤ len ∧ len ≤ 240)
  | 0x12 | 0x21 | 0x22 | 0x23 | 0x25 | 0x48 => len == 5
  | 0x13 | 0x14 | 0x15 | 0x33 | 0x39 | 0x3A | 0x3B | 0x3C | 0x40 | 0x41 | 0x49 | 0x4A => len == 1
  | 0x20 => len == 13
  | 0x24 | 0x31 => len == 6
  | 0x30 => decide (natAt f.payload 12 ≤ 7 ∧ len = 13 + 6 * natAt f.payload 12)
  | _ => false

/-- A reserved byte or bit that is not 0 (R171): byte 1 of BUF WRITE and BUF READ, bits 2 to 7 of byte 3 of JOB SUBMIT. -/
def reservedSet (f : Frame) : Bool :=
  match f.kind.toNat with
  | 0x11 | 0x12 => decide (byteAt f.payload 1 ≠ 0)
  | 0x30 => decide (natAt f.payload 3 / 4 ≠ 0)
  | _ => false

end Sys2Proof.Machine
end

