-- ==== Sys2Proof/Machine/Transforms.lean ====
section
/-! DEFINITION. The arithmetic of the packing transforms (chapter 2): DELTA, RUN, WHITEN and CHECK, each as a step of the
working copy by one byte and a finalize step, and the profile of a STREAM OPEN (R4, R173). -/

namespace Sys2Proof.Machine

/-! ### Profiles (R4, R5, R173) -/

/-- A stream has a CHECK when its primary kind is CHECK or its secondary is CHECK (R51). -/
def Profile.hasCheck (p : Profile) : Bool := p.kind == .check || p.secondary == .check

/-- The byte size of a check value (R41, R51). -/
def Profile.checkSize (p : Profile) : Nat :=
  match p.variant with
  | .crc16 => 2
  | .crc32 => 4

/-- The kind of engine that works a part (R5). -/
def Profile.partKind (p : Profile) : Which → Kind
  | .primary => p.kind
  | .check => .check

/-- The profile that the 13 bytes of a STREAM OPEN give, or none where a used field is out of range; a field the profile
does not use is not looked at and is stored as 0 (R4, R173): of the base of a DELTA of width 1, which uses the low byte
only, the high byte. -/
def profileOf (p : List Byte) : Option Profile :=
  match kindOf (byteAt p 2), secondaryOf (byteAt p 3) with
  | some kind, some secondary =>
    let tapped := secondary == .check
    let checked := tapped || kind == .check
    let tap := if tapped then tapOf (byteAt p 4) else some .input
    let variant := if checked then variantOf (byteAt p 8) else some .crc16
    let paramOk :=
      match kind with
      | .delta => decide (natAt p 5 = 1 ∨ natAt p 5 = 2)
      | .run => decide (3 ≤ natAt p 5 ∧ natAt p 5 ≤ 8)
      | .whiten => decide (halfAt p 6 ≠ 0)
      | .check => !tapped
    match tap, variant with
    | some tap, some variant =>
      let crc := checked && variant == .crc16
      if paramOk then
        some { kind := kind
               deltaWidth := if kind = .delta then natAt p 5 else 0
               deltaBase := if kind = .delta then (if natAt p 5 = 1 then halfAt p 6 &&& 0x00FF else halfAt p 6) else 0
               runMin := if kind = .run then natAt p 5 else 0
               runEscape := if kind = .run then byteAt p 6 else 0
               whitenSeed := if kind = .whiten then halfAt p 6 else 0
               secondary := secondary
               tap := tap
               variant := variant
               crcInit := if crc then halfAt p 9 else 0
               crcXorout := if crc then halfAt p 11 else 0 }
      else none
    | _, _ => none
  | _, _ => none

/-- A profile in the order and widths of STREAM OPEN payload bytes 2 to 12 (section 9.4.1, R173). -/
def profileBytes (p : Profile) : List Byte :=
  [kindCode p.kind, secondaryCode p.secondary, tapCode p.tap] ++
  (match p.kind with
   | .delta => byteOf p.deltaWidth :: halfBytes p.deltaBase
   | .run => [byteOf p.runMin, p.runEscape, 0]
   | .whiten => 0 :: halfBytes p.whitenSeed
   | .check => zeroBytes 3) ++
  [variantCode p.variant] ++ halfBytes p.crcInit ++ halfBytes p.crcXorout

/-! ### CHECK (R38 to R40) -/

/-- One shift of the CRC16 remainder (R38). -/
def crc16Shift (r : Half) : Half := if r.getLsbD 15 then (r <<< 1) ^^^ 0x1021 else r <<< 1

/-- `f` applied n times. -/
def times {α : Type} (f : α → α) : Nat → α → α
  | 0, x => x
  | n + 1, x => times f n (f x)

/-- The CRC16 remainder after one byte, which enters the high byte, and eight shifts (R38). -/
def crc16Byte (r : Half) (b : Byte) : Half := times crc16Shift 8 (r ^^^ (b ++ (0 : Byte)))

/-- One shift of the CRC32 remainder (R39). -/
def crc32Shift (r : Quad) : Quad := if r.getLsbD 0 then (r >>> 1) ^^^ 0xEDB88320 else r >>> 1

/-- The CRC32 remainder after one byte, which enters the low byte, and eight shifts (R39). -/
def crc32Byte (r : Quad) (b : Byte) : Quad := times crc32Shift 8 (r ^^^ b.setWidth 32)

/-- The CRC16 of a run of bytes from a remainder (R38). -/
def crc16Bytes (r : Half) (bs : List Byte) : Half := bs.foldl crc16Byte r

/-- The remainder of a CHECK part after one byte, by variant (R38, R39). -/
def crcByte (variant : Variant) (r : Quad) (b : Byte) : Quad :=
  match variant with
  | .crc16 => (crc16Byte (r.setWidth 16) b).setWidth 32
  | .crc32 => crc32Byte r b

/-- A byte fed to a CHECK part: the remainder steps and the byte count rises by 1, mod 100000000H (R40). -/
def feedCheck (variant : Variant) (b : Byte) : PartValue → PartValue
  | .check remainder count => .check (crcByte variant remainder b) (count + 1)
  | other => other

/-- The check value of a remainder (R41). -/
def checkValueOf (p : Profile) (remainder : Quad) : Quad :=
  match p.variant with
  | .crc16 => (remainder.setWidth 16 ^^^ p.crcXorout).setWidth 32
  | .crc32 => remainder ^^^ 0xFFFFFFFF

/-- The bytes of a check value, least significant first (R41). -/
def checkValueBytes (p : Profile) (v : Quad) : List Byte := (quadBytes v).take p.checkSize

/-- The verification of a check value (R42): CRC16 compares the low 16 bits only. -/
def verifyOf (p : Profile) (expect : Option Quad) (v : Quad) : Verify :=
  match expect, p.variant with
  | none, _ => .none
  | some e, .crc16 => if e.setWidth 16 = v.setWidth 16 then .isMatch else .mismatch
  | some e, .crc32 => if e = v then .isMatch else .mismatch

/-! ### WHITEN (R36, R37) -/

/-- The feedback bit of the LFSR: bit 0 XOR bit 2 XOR bit 3 XOR bit 5 (R36). -/
def lfsrFeedback (s : Half) : Bool := xor (xor (s.getLsbD 0) (s.getLsbD 2)) (xor (s.getLsbD 3) (s.getLsbD 5))

/-- One step of the LFSR: shifted right one place, the feedback bit entering bit 15 (R36). -/
def lfsrStep (s : Half) : Half := (s >>> 1) ||| (if lfsrFeedback s then 0x8000 else 0)

/-- The next key byte: the output bits of eight steps, the first in bit 0 (R36). -/
def lfsrKey (s : Half) : Byte :=
  flags s 8
where
  /-- The output bits of the next n steps, the first least significant. -/
  flags (s : Half) : Nat → Byte
    | 0 => 0
    | n + 1 => (if s.getLsbD 0 then 1 else 0) ||| (flags (lfsrStep s) n <<< 1)

/-! ### RUN (R32 to R35) -/

/-- One literal token (R32): b, or the pair E, 0FFH for b equal to E. -/
def literalToken (escape b : Byte) : List Byte := if b = escape then [escape, 0xFF] else [b]

/-- The run token of n copies of b (R32): E, n − M, b. -/
def runToken (minRun : Nat) (escape b : Byte) (n : Nat) : List Byte := [escape, byteOf (n - minRun), b]

/-- The flush of a pending run (R34). -/
def flushRun (minRun : Nat) (escape v : Byte) (c : Nat) : List Byte :=
  if minRun ≤ c then runToken minRun escape v c else (List.replicate c (literalToken escape v)).flatten

/-! ### One DATA byte, and the finalize step, for each primary -/

/-- The initial value of a CHECK part (R6). -/
def initialCheck (p : Profile) : PartValue :=
  match p.variant with
  | .crc16 => .check (p.crcInit.setWidth 32) 0
  | .crc32 => .check 0xFFFFFFFF 0

/-- The initial value of a part, formed from the profile (R6). -/
def initialPart (p : Profile) : Which → PartValue
  | .check => initialCheck p
  | .primary =>
    match p.kind with
    | .delta => .delta (if p.deltaWidth = 1 then p.deltaBase &&& 0x00FF else p.deltaBase) none
    | .run => .run none
    | .whiten => .whiten p.whitenSeed
    | .check => initialCheck p

/-- The primary part after it consumes one DATA byte, and the bytes it then has to write, in order (R29, R30, R33, R37; a
primary CHECK is fed the byte and writes none, R26). -/
def consumeByte (p : Profile) (v : PartValue) (x : Byte) : PartValue × List Byte :=
  match v with
  | .delta previous carry =>
    if p.deltaWidth = 1 then (.delta (x.setWidth 16) none, [x - previous.setWidth 8])
    else
      match carry with
      | none => (.delta previous (some x), [])
      | some low =>
        let sample : Half := x ++ low
        (.delta sample none, halfBytes (sample - previous))
  | .run none => (.run (some (x, 1)), [])
  | .run (some (b, c)) =>
    if x = b then
      if c + 1 = 254 + p.runMin then (.run none, runToken p.runMin p.runEscape b (c + 1))
      else (.run (some (b, c + 1)), [])
    else (.run (some (x, 1)), flushRun p.runMin p.runEscape b c)
  | .whiten lfsr => (.whiten (times lfsrStep 8 lfsr), [x ^^^ lfsrKey lfsr])
  | .check remainder count => (feedCheck p.variant x (.check remainder count), [])

/-- The bytes of the primary's finalize step (R31, R35, R37). -/
def finalizeBytes (p : Profile) : PartValue → List Byte
  | .delta _ (some carry) => [carry]
  | .delta _ none => []
  | .run (some (b, c)) => flushRun p.runMin p.runEscape b c
  | .run none => []
  | .whiten _ => []
  | .check _ _ => []

end Sys2Proof.Machine
end

