-- ==== Sys2Proof/Machine/Contexts.lean ====
section
/-! DEFINITION. Context parts: their stored copies, owners, and the reads and writes of those copies (R7 to R13). -/

namespace Sys2Proof.Machine

/-- The table copy of a part (R7). -/
def Stream.copy (x : Stream) : Which → Copy
  | .primary => x.primaryCopy
  | .check => x.checkCopy

/-- A table copy replaced. -/
def Stream.setCopy (x : Stream) (w : Which) (k : Copy) : Stream :=
  match w with
  | .primary => { x with primaryCopy := k }
  | .check => { x with checkCopy := k }

/-- A whole write of a table copy, which removes any error in it (R7). -/
def State.writeCopy (s : State) (n : StreamIx) (w : Which) (v : PartValue) : State :=
  s.setStream n ((s.stream n).setCopy w { value := v, level := .clean })

/-- The parts that a profile gives a stream (R5). -/
def Profile.parts (p : Profile) : List Which :=
  if p.secondary = .check then [.primary, .check] else [.primary]

/-- The engine that keeps a resident copy of a part, if one does (R8, R12). -/
def State.residentOn (s : State) (n : StreamIx) (w : Which) : Option EngineIx :=
  allEngines.find? (fun e =>
    match (s.engine e).part with
    | .resident n' w' _ => decide (n' = n ∧ w' = w)
    | _ => false)

/-- The owner of a context part (R8): an engine, or the table (`none`). An engine owns a part it holds, and from the start
of LOADING the part it is loading. -/
def State.owner (s : State) (n : StreamIx) (w : Which) : Option EngineIx :=
  allEngines.find? (fun e =>
    (match (s.engine e).part with
     | .resident n' w' _ => decide (n' = n ∧ w' = w)
     | .working n' w' _ => decide (n' = n ∧ w' = w)
     | .none => false) ||
    s.jobs.any (fun j =>
      decide (j.stream = n) && j.state == .loading &&
        decide (j.engines.map (fun es => if w = .primary then some es.1 else es.2) = some (some e))))

/-- A stored copy as an error event leaves it: the error stays, and the worse level stands (R7).
DESIGN CHOICE, log 22. -/
def Copy.disturb (k : Copy) (level : ErrLevel) : Copy :=
  match k.level, level with
  | .uncorrectable, _ => k
  | _, .uncorrectable => { k with level := .uncorrectable }
  | _, .correctable => { k with level := .correctable }
  | _, .clean => k

/-- The arrival that an engine's read of a stored copy gives, by the copy's level (R7, R141). -/
def contextArrival (n : StreamIx) (tag : Option Nat) : ErrLevel → Option FaultRecord
  | .clean => none
  | .correctable => some { severity := .corrected, kind := .context, site := some (.stream n), tag := tag }
  | .uncorrectable => some { severity := .uncorrected, kind := .context, site := some (.stream n), tag := tag }

/-- The arrival of an engine's read of a stored copy taken by its bank; a clean read gives none. -/
def State.arriveContext (s : State) (e : EngineIx) (n : StreamIx) (tag : Option Nat) (level : ErrLevel) : State :=
  match contextArrival n tag level with
  | none => s
  | some a => s.arrive (engineBank e) a

/-- An engine record that holds this part. -/
def State.setPart (s : State) (e : EngineIx) (p : Part) : State := s.setEngine e { s.engine e with part := p }

/-- The engine record that holds no part and saves none: what a save leaves at its end (R9), and a drop at once (R10, R90). -/
def Engine.emptied (en : Engine) : Engine := { en with part := .none, saveInProgress := false }

/-- Every resident part of the stream dropped (R10). A part that was in a save is in none any more: the save of a part ends
too when a loss is found in another part of its stream (R14, R90).
DEDUCED, log 23. -/
def State.dropResidents (s : State) (n : StreamIx) : State :=
  allEngines.foldl (fun s e =>
    match (s.engine e).part with
    | .resident n' _ _ => if n' = n then s.setEngine e (s.engine e).emptied else s
    | _ => s) s

/-- A stream becomes FAULTED, from IN-RECORD (R2, R14): record and tail state, every part lost, resident parts dropped;
profile, key, home channel and totals are kept. A lost copy is left uncorrectable.
DEDUCED, log 21. -/
def State.enterFaulted (s : State) (n : StreamIx) : State :=
  let x := s.stream n
  if x.state = .inRecord then
    (s.setStream n { x with
      state := .faulted, tail := .faulted
      primaryCopy := { x.primaryCopy with level := .uncorrectable }
      checkCopy := { x.checkCopy with level := .uncorrectable } }).dropResidents n
  else s

/-- The engine leaves its save of a resident part holding none (R9). -/
def State.endSave (s : State) (e : EngineIx) : State :=
  s.setEngine e (s.engine e).emptied

/-- The copying part of a save (R9): AT-REST writes the initial value and reads nothing; IN-RECORD reads the resident copy
through its check code and writes the value. The second result is the stream whose part was found lost. R9 does not say
when within the save the copy is read; the model reads it here, at SAVE_END.
DESIGN CHOICE, log 45. -/
def State.savePart (s : State) (e : EngineIx) : State × Option StreamIx :=
  match (s.engine e).part with
  | .resident n w k =>
    if (s.stream n).state = .atRest then
      ((s.writeCopy n w (initialPart (s.stream n).profile w)).endSave e, none)
    else
      let tag := (s.engine e).job
      let s := s.arriveContext e n tag k.level
      if k.level = .uncorrectable then ((s.endSave e).enterFaulted n, some n)
      else ((s.writeCopy n w k.value).endSave e, none)
  | _ => (s.endSave e, none)

/-- The forming of the checkpoint and working copy of one part at LOADING (R11); false where the read found the copy
uncorrectable. -/
def State.loadPart (s : State) (j : Job) (e : EngineIx) (w : Which) : State × Bool :=
  let n := j.stream
  if j.phase.initializing then
    let v := initialPart (s.stream n).profile w
    ((s.writeCopy n w v).setPart e (.working n w v), true)
  else
    let k :=
      match (s.engine e).part with
      | .resident n' w' k => if n' = n ∧ w' = w then k else (s.stream n).copy w
      | _ => (s.stream n).copy w
    let s := s.arriveContext e n (some j.tag) k.level
    if k.level = .uncorrectable then (s, false)
    else ((s.writeCopy n w k.value).setPart e (.working n w k.value), true)

/-- Every part of the job loaded, primary first; a load that fails ends the work (R59).
DEDUCED, log 17. -/
def State.loadParts (s : State) (j : Job) : State × Bool :=
  match j.engines with
  | none => (s, false)
  | some (e, none) => s.loadPart j e .primary
  | some (e, some k) =>
    match s.loadPart j e .primary with
    | (s, true) => s.loadPart j k .check
    | (s, false) => (s, false)

end Sys2Proof.Machine
end

