-- ==== Sys2Proof/Machine/JobFlow.lean ====
section
/-! DEFINITION. What a job does with its buffers and engines: writing due bytes, block hand-off, and the effects of a job's
end with its cascade (R43 to R47, R60 to R66, R80, R111 to R114). -/

namespace Sys2Proof.Machine

/-! ### Operands of a job -/

/-- The OUT operand of a job (R51). -/
def Job.outOperand (j : Job) : Option Operand := j.operands.find? (fun op => op.role == .out)

/-- The PREFIX operand of a job (R51). -/
def Job.leadOperand (j : Job) : Option Operand := j.operands.find? (fun op => op.role == .lead)

/-- The CHECK-OUT operand of a job (R51). -/
def Job.checkOutOperand (j : Job) : Option Operand := j.operands.find? (fun op => op.role == .checkOut)

/-- The DATA operands of a job in operand-list order (R26). -/
def Job.dataOperands (j : Job) : List Operand := j.operands.filter (fun op => op.role == .data)

/-- Whether the OUT of a job is AUTO (R44, R48). -/
def Job.isAuto (j : Job) : Bool := j.autoHandle != 0

/-- The bytes an OUT may take: an explicit OUT's length, an AUTO OUT's length or 4096 for 0 (R43, R44). -/
def Job.outCapacity (j : Job) : Nat :=
  match j.outOperand with
  | none => 0
  | some op => if j.isAuto && op.length == 0 then 4096 else op.length

/-- The place of the k-th byte of operands taken one after another (R26). -/
def locate : List Operand → Nat → Option (Operand × Nat)
  | [], _ => none
  | op :: rest, k => if k < op.length then some (op, k) else locate rest (k - op.length)

/-- The PREFIX byte a job feeds next, if one is left (R26). -/
def Job.nextLead (j : Job) : Option Operand := j.leadOperand.filter (fun op => decide (j.leadFed < op.length))

/-- The DATA byte a job consumes next, if one is left (R26). -/
def Job.nextData (j : Job) : Option (Operand × Nat) := locate j.dataOperands j.dataConsumed

/-! ### Engines of a job -/

/-- The engines of a job with the part each works (R5, R59). -/
def Job.workers (j : Job) : List (EngineIx × Which) :=
  match j.engines with
  | none => []
  | some (e, none) => [(e, .primary)]
  | some (e, some k) => [(e, .primary), (k, .check)]

/-- Every engine of a job put in this state (R79). -/
def State.setWorkers (s : State) (j : Job) (st : EngineState) : State :=
  j.workers.foldl (fun s ew => s.setEngine ew.1 { s.engine ew.1 with state := st }) s

/-- The primary engine of a job put in this state: a check engine stays RUNNING while the job is HELD (R79). -/
def State.setPrimary (s : State) (j : Job) (st : EngineState) : State :=
  match j.engines with
  | none => s
  | some (e, _) => s.setEngine e { s.engine e with state := st }

/-- The engine that works the CHECK part of a job: the check engine, or the primary engine of a primary CHECK (R26). -/
def Job.checkEngine (j : Job) (p : Profile) : Option EngineIx :=
  match j.engines with
  | none => none
  | some (e, k) => if p.kind = .check then some e else k

/-- A byte fed to the CHECK part that an engine works (R26, R40). -/
def State.feedEngine (s : State) (variant : Variant) (e : EngineIx) (b : Byte) : State :=
  match (s.engine e).part with
  | .working n w v => s.setPart e (.working n w (feedCheck variant b v))
  | _ => s

/-- A byte seen by the tapped check part of a job whose profile taps that flow (R26, R45). -/
def State.tapByte (s : State) (j : Job) (p : Profile) (flow : Tap) (b : Byte) : State :=
  match j.engines with
  | some (_, some k) => if p.secondary = .check ∧ p.tap = flow then s.feedEngine p.variant k b else s
  | _ => s

/-! ### Reads of input words (R115) -/

/-- The word that holds byte o of a buffer has been read for this job by this engine (R115).
DESIGN CHOICE, log 25. -/
def Job.hasRead (j : Job) (e : EngineIx) (h o : Nat) : Bool := j.wordsRead.contains (e, h, o / 8)

/-- The job with the read of the word that holds byte o of a buffer noted. -/
def Job.noteRead (e : EngineIx) (h o : Nat) (j : Job) : Job :=
  { j with wordsRead := if j.hasRead e h o then j.wordsRead else (e, h, o / 8) :: j.wordsRead }

/-- The input byte that a RUNNING job's next byte step feeds, as engine, handle and offset, where the read of its word is
still to be made (R26, R115). -/
def Job.dueRead (j : Job) (p : Profile) : Option (EngineIx × Nat × Nat) :=
  if j.state = .running ∧ j.due = [] then
    (match j.nextLead, j.nextData with
     | some op, _ => (j.checkEngine p).map (fun e => (e, op.handle, op.offset + j.leadFed))
     | none, some (op, k) => j.engines.map (fun (es : EngineIx × Option EngineIx) => (es.1, op.handle, op.offset + k))
     | none, none => none).filter (fun r => !j.hasRead r.1 r.2.1 r.2.2)
  else none

/-! ### Writing the output (R43 to R45) -/

/-- The primary part of a job once the last byte due is written: as the DATA byte in hand leaves it (R29, R30, R33, R34, R37),
or after the finalize step's bytes the initial value (R31, R35). -/
def Job.nextPart (j : Job) (p : Profile) (v : PartValue) : PartValue :=
  match j.inHand with
  | some x => (consumeByte p v x).1
  | none => initialPart p .primary

/-- The working copy of the primary engine of a job stepped, the last byte due being written: a pending run that is flushed
is removed now, not before (R34). -/
def State.stepPrimary (s : State) (j : Job) (p : Profile) : State :=
  match j.engines with
  | none => s
  | some (e, _) =>
    match (s.engine e).part with
    | .working n w v => s.setPart e (.working n w (j.nextPart p v))
    | _ => s

/-- The first due byte of the head job written to OUT, with its tap and its progress event; the places are there. The
last one due steps the working copy. The carry byte of a finalize step sets ODD-TAIL (R31), which the record and its
JOB END then keep, also where the job is cut short before TRANSFORM_WORK_END (R47).
DESIGN CHOICE, log 48. -/
def State.writeDue (s : State) (c : ChanIx) (j : Job) : State :=
  match j.due, j.outOperand with
  | b :: rest, some op =>
    let p := (s.stream j.stream).profile
    let st := s.store.writeAt op.handle (op.offset + j.outWritten) b
    let st := if j.isAuto then st.setBuffer op.handle { st.buffer op.handle with size := j.outWritten + 1 } else st
    let s := s.setStore st
    let s := s.modJob c j.tag (fun j => { j with
      outWritten := j.outWritten + 1, due := rest, inHand := if rest = [] then none else j.inHand
      oddTail := j.oddTail || (j.finalized && p.kind == .delta) })
    let s := s.tapByte j p .output b
    (if rest = [] then s.stepPrimary j p else s).progress c
  | _, _ => s

/-- The channel at the head of the block wait queue, with its HELD job, whose PENDING buffer takes a released block
(R112).
DEDUCED, log 39. -/
def State.waiter (s : State) : Option (ChanIx × Job) :=
  match s.store.waitQueue with
  | [] => none
  | c :: _ =>
    ((s.headIn c .held).filter (fun j => (s.store.buffer j.autoHandle).state == .pending)).map (fun j => (c, j))

/-- A released block handed to the channel at the head of the wait queue: it leaves the queue, its job returns to RUNNING
and the due byte is written (R112). -/
def State.handOff (s : State) (blk : Nat) (c : ChanIx) (j : Job) : State :=
  let s := s.setStore { s.store with waitQueue := s.store.waitQueue.tail }
  let s := s.setStore (s.store.appendBlock j.autoHandle blk)
  let s := s.modJob c j.tag (fun j => { j with state := .running })
  ((s.setPrimary j .running).progress c).writeDue c j

/-- One released block dealt with: to the channel at the head of the wait queue, or to the free set (R112). -/
def State.releaseBlock (s : State) (blk : Nat) : State :=
  match s.waiter with
  | some (c, j) => s.handOff blk c j
  | none => s.setStore { s.store with freeCount := s.store.freeCount + 1 }

/-- A buffer freed: its handle becomes FREE and its blocks are released in the order of its list (R106, R112, R114). -/
def State.freeBuffer (s : State) (h : Nat) : State :=
  let blks := (s.store.buffer h).blocks
  let s := s.setStore (s.store.setBuffer h Machine.freeBuffer)
  blks.foldl State.releaseBlock s

/-! ### Job ends (R62) -/

/-- An engine that goes OFFLINE (R93, R96). -/
def offlineEngine : Engine :=
  { state := .offline, binding := .none, part := .none, job := none, saveInProgress := false, offlineDue := false }

/-- One engine leaves an ended job (R80): the table of that rule, with the context of R12 and R13. R12 places a dynamic
engine's write of the table copy within SAVING and no closer; the model makes it here, at SAVING_END.
DESIGN CHOICE, log 44. -/
def State.leaveEngine (s : State) (finished : Bool) (ew : EngineIx × Which) : State :=
  let e := ew.1
  let en := s.engine e
  let writes := finished && (en.offlineDue || (match en.binding with | .pinned _ => false | _ => true))
  let s :=
    match en.part with
    | .working n w v => if writes then s.writeCopy n w v else s
    | _ => s
  if en.offlineDue then s.setEngine e offlineEngine
  else
    match en.binding with
    | .pinned c =>
      if finished then
        let part :=
          match en.part with
          | .working n w v => Part.resident n w { value := v, level := .clean }
          | _ => Part.none
        s.setEngine e { freshEngine with state := .bound, binding := .pinned c, part := part }
      else s.setEngine e { freshEngine with state := .scrub, binding := .pinned c }
    | _ => s.setEngine e { freshEngine with state := .scrub }

/-- The record state after a job of this phase ends DONE, by the table of R2. -/
def Phase.after (phase : Phase) (state : RecordState) : RecordState := if state = phase.needs then phase.endState else state

/-- The stream's share of a job end (R16): the in-flight count, and for DONE the record state and the totals. -/
def Stream.jobEnded (x : Stream) (j : Job) (finished : Bool) : Stream :=
  let x := { x with inFlight := x.inFlight - 1 }
  if finished then
    { x with
      state := j.phase.after x.state
      segments := x.segments + 1
      bytesIn := x.bytesIn + BitVec.ofNat 32 j.dataConsumed
      bytesOut := x.bytesOut + BitVec.ofNat 32 j.outWritten }
  else x

/-- The buffers' share of a job end (R62, R101, R114): each named buffer released, the AUTO buffer kept or freed. -/
def State.endBuffers (s : State) (j : Job) (finished : Bool) : State :=
  let s := s.setStore (j.handles.foldl (Store.dropBuffer s.liveJobs) s.store)
  if j.isAuto then
    if finished then s.setStore (s.store.keepAuto j.autoHandle) else s.freeBuffer j.autoHandle
  else s

/-- The stall watch's share of the end of a head job (R62, R134): timer and clock stop, a pending notice is dropped. -/
def State.endWatch (s : State) (c : ChanIx) : State :=
  let s := s.setWatch c { s.watch c with timer := none, warnTaken := false, clock := none }
  s.setWatchPending c none

/-- Whether an engine holds a working copy. -/
def Engine.holdsWorking (en : Engine) : Bool :=
  match en.part with
  | .working _ _ _ => true
  | _ => false

/-- What the engines of a job may find at the moment of its end (R138, R145, R146): each that holds a working copy a
self-check fault, and one the error of the input word whose read is due.
DESIGN CHOICE, log 43. -/
def State.openFindings (s : State) (c : ChanIx) (j : Job) : List Late :=
  (j.workers.filter (fun ew => (s.engine ew.1).holdsWorking)).map
    (fun ew => { engine := ew.1, channel := c, tag := j.tag, finding := .selfCheck }) ++
  (j.dueRead (s.stream j.stream).profile).toList.map
    (fun r => { engine := r.1, channel := c, tag := j.tag, finding := .inputWord r.2.1 r.2.2 })

/-- The effects of one job's end, taken together (R62); the cascade is apart. At an end other than DONE the findings of
R138 and R146 stay open. ODD-TAIL stays as it stands at any end: of a job cut short after its finalize carry byte was
written, but before TRANSFORM_WORK_END, R31 sets it at that write, and R47 says that a finalize step does not set it.
DEDUCED, log 38; DESIGN CHOICE, log 43 and 48. -/
def State.endOne (s : State) (c : ChanIx) (st : JobState) (reason : Reason) (j : Job) : State :=
  let finished := st == .done
  let isHead := (s.head c).any (fun h => h.tag == j.tag)
  let s := if finished then s else s.setLate (s.late ++ s.openFindings c j)
  let s := s.modJob c j.tag (fun j => { j with
    state := st, reason := reason, engines := none, due := [], inHand := none, wordsRead := [] })
  let s := s.setStore { s.store with waitQueue := if isHead then s.store.waitQueue.filter (· != c) else s.store.waitQueue }
  let s := s.setStream j.stream ((s.stream j.stream).jobEnded j finished)
  let s := s.endBuffers j finished
  let s := j.workers.foldl (fun s ew => s.leaveEngine finished ew) s
  if isHead then s.endWatch c else s

/-- The live jobs of a stream in a channel's queue, oldest first (R3, R55). -/
def State.streamJobs (s : State) (c : ChanIx) (n : StreamIx) : List Job :=
  (s.channel c).queue.filter (fun j => decide (j.stream = n) && j.state.live)

/-- The tail state formed anew (R16): the end state of the newest live job's phase, or the record state. -/
def State.formTail (s : State) (c : ChanIx) (n : StreamIx) : State :=
  let x := s.stream n
  s.setStream n { x with tail := ((s.streamJobs c n).getLast?.map (·.phase.endState)).getD x.state }

/-- Every live job of a stream cancelled, oldest first (R65, R66). -/
def State.cancelJobs (s : State) (c : ChanIx) (n : StreamIx) (reason : Reason) : State :=
  (s.streamJobs c n).foldl (fun s j => s.endOne c .cancelled reason j) s

/-- The reason of a cascade (R65). -/
def State.cascadeReason (s : State) (n : StreamIx) : Reason :=
  if (s.stream n).state = .faulted then .streamFaulted else .predecessor

/-- The cascade behind a FAILED or ABORTED job, which is the oldest live job of its stream (R65). -/
def State.cascade (s : State) (c : ChanIx) (n : StreamIx) : State := s.cancelJobs c n (s.cascadeReason n)

/-- After a DONE, the abort mark of the next live job of the stream takes effect, with its cascade (R69). -/
def State.releaseMark (s : State) (c : ChanIx) (n : StreamIx) : State :=
  match s.streamJobs c n with
  | j :: _ =>
    if j.state = .queued ∧ j.abortMark then (s.endOne c .aborted .none j).cascade c n else s
  | [] => s

/-- A job's end with everything taken together with it: R62, the cascade (R65) or the release of an abort mark (R69), and
the tail state (R16). -/
def State.endJob (s : State) (c : ChanIx) (st : JobState) (reason : Reason) (j : Job) : State :=
  let s := s.endOne c st reason j
  let s := if st = .done then s.releaseMark c j.stream else s.cascade c j.stream
  s.formTail c j.stream

/-- The live jobs of a stream made FAULTED by a save end CANCELLED STREAM-FAULTED (R66). -/
def State.cancelFaulted (s : State) (n : StreamIx) : State :=
  let c := (s.stream n).home
  (s.cancelJobs c n .streamFaulted).formTail c n

/-- The end of a save of a resident part (R9), with the cancellations of R66 where it found a loss. -/
def State.saveResident (s : State) (e : EngineIx) : State :=
  match s.savePart e with
  | (s, some n) => s.cancelFaulted n
  | (s, none) => s

end Sys2Proof.Machine
end

