-- ==== Sys2Proof/Machine/Allocator.lean ====
section
/-! DEFINITION. The Engine Allocator (R82 to R86), the channel sequencer's dealing with its head job (R56, R67), and
`settle`: the actions of sequencers, allocator and slot arbiter that follow at once from an event. -/

namespace Sys2Proof.Machine

/-! ### Need, cover, request (R58, R82) -/

/-- The kinds of engine a job of this profile needs (R5, R58). -/
def Profile.need (p : Profile) : List Kind := if p.secondary = .check then [p.kind, .check] else [p.kind]

/-- The engine of a kind pinned to a channel: at most one stands (R77). -/
def State.pinnedEngine (s : State) (c : ChanIx) (k : Kind) : Option EngineIx :=
  allEngines.find? (fun e => (s.engine e).binding == .pinned c && engineKind e == k)

/-- The lowest-numbered AVAILABLE engine of a kind (R84). -/
def State.availableEngine (s : State) (k : Kind) : Option EngineIx :=
  allEngines.find? (fun e => (s.engine e).state == .available && engineKind e == k)

/-- The kinds of a need that no pin of the channel covers (R82). -/
def State.request (s : State) (c : ChanIx) (need : List Kind) : List Kind :=
  need.filter (fun k => (s.pinnedEngine c k).isNone)

/-- Ready: every engine pinned to the channel for a kind of the need is BOUND with no save in progress (R82). -/
def State.ready (s : State) (c : ChanIx) (need : List Kind) : Bool :=
  need.all (fun k =>
    match s.pinnedEngine c k with
    | some e => (s.engine e).state == .bound && !(s.engine e).saveInProgress
    | none => true)

/-- Satisfiable: an engine of every requested kind is AVAILABLE (R82). -/
def State.satisfiable (s : State) (c : ChanIx) (need : List Kind) : Bool :=
  (s.request c need).all (fun k => (s.availableEngine k).isSome)

/-- The engine that supplies a kind: the channel's pin, or the engine a grant would take (R82, R84). -/
def State.supplier (s : State) (c : ChanIx) (k : Kind) : Option EngineIx :=
  (s.pinnedEngine c k).or (s.availableEngine k)

/-- The profile of a job's stream (R1). -/
def State.profileOfJob (s : State) (j : Job) : Profile := (s.stream j.stream).profile

/-- A channel whose WAITING head job can leave WAITING now, with that job (R82). -/
def State.startable (s : State) (c : ChanIx) : Option Job :=
  (s.headIn c .waiting).filter (fun j =>
    s.ready c (s.profileOfJob j).need && s.satisfiable c (s.profileOfJob j).need)

/-! ### Entering LOADING (R59, R79, R89) -/

/-- As LOADING begins, the table copy of a part becomes the checkpoint (R8, R11). For WHOLE and FIRST the initial value is
written to it. For MIDDLE or LAST with the part resident on the job's engine, the resident copy is, as it stands: nothing
is read yet, so an error in it stands in the table copy too until a read finds it (R7). In every other case the table
copy is the checkpoint as it stands. The engine's read, with what it finds, is made at LOADING_END.
DESIGN CHOICE, log 18. -/
def State.beginCheckpoint (s : State) (j : Job) (ew : EngineIx × Which) : State :=
  let n := j.stream
  if j.phase.initializing then s.writeCopy n ew.2 (initialPart (s.stream n).profile ew.2)
  else
    match (s.engine ew.1).part with
    | .resident m w k =>
      if m = n ∧ w = ew.2 then s.setStream n ((s.stream n).setCopy w k) else s
    | _ => s

/-- An engine enters LOADING for a job: a granted one is bound DYNAMIC; one that holds a part other than the one it is to
load begins that part's save (R79, R89). A resident copy of the part that it is to load stays in its record until
LOADING_END, for WHOLE and FIRST too, whose LOADING discards it at a moment that R11 and R89 leave open.
DESIGN CHOICE, log 46. -/
def State.startEngine (s : State) (c : ChanIx) (j : Job) (ew : EngineIx × Which) : State :=
  let en := s.engine ew.1
  let swap :=
    match en.part with
    | .resident n w _ => !decide (n = j.stream ∧ w = ew.2)
    | _ => false
  (s.beginCheckpoint j ew).setEngine ew.1 { en with
    state := .loading
    binding := if en.state = .available then .dynamic c else en.binding
    job := some j.tag
    saveInProgress := swap }

/-- The engines that would work for a job of this profile on this channel (R84, R85). -/
def State.choose (s : State) (c : ChanIx) (p : Profile) : Option (EngineIx × Option EngineIx) :=
  match s.supplier c p.kind with
  | none => none
  | some e => if p.secondary = .check then (s.supplier c .check).map (fun k => (e, some k)) else some (e, none)

/-- The head job and its engines enter LOADING; the progress timer and the job clock start (R79, R134). -/
def State.startLoading (s : State) (c : ChanIx) (j : Job) : State :=
  match s.choose c (s.profileOfJob j) with
  | none => s
  | some es =>
    let j' : Job := { j with state := .loading, engines := some es }
    let s := s.modJob c j.tag (fun j => { j with state := .loading, engines := some es })
    let s := j'.workers.foldl (fun s ew => s.startEngine c j ew) s
    s.setWatch c { s.watch c with timer := some 0, warnTaken := false, clock := some 0 }

/-! ### The allocation attempt (R83 to R85) -/

/-- A ready channel with an empty request begins LOADING without a grant (R85). -/
def State.startCovered (s : State) (c : ChanIx) : State :=
  match s.startable c with
  | some j => if s.request c (s.profileOfJob j).need = [] then s.startLoading c j else s
  | none => s

/-- One channel of the walk: granted where it is ready, satisfiable and has a request; the pointer then moves past it
(R84). -/
def State.grantChannel (s : State) (c : ChanIx) : State :=
  match s.startable c with
  | some j =>
    if s.request c (s.profileOfJob j).need = [] then s else { s.startLoading c j with grantPtr := c + 1 }
  | none => s

/-- One allocation attempt, taken whole (R83, R84). -/
def State.attempt (s : State) : State :=
  let s := allChannels.foldl State.startCovered s
  (channelsFrom s.grantPtr).foldl State.grantChannel s

/-! ### The NO-ENGINE test (R86) -/

/-- Every engine of a kind is OFFLINE (R86). -/
def State.whollyOffline (s : State) (k : Kind) : Bool :=
  allEngines.all (fun e => engineKind e != k || (s.engine e).state == .offline)

/-- The WAITING head job of a channel, where a kind of its need is wholly OFFLINE (R86). -/
def State.unserved (s : State) (c : ChanIx) : Option Job :=
  (s.headIn c .waiting).filter (fun j => (s.profileOfJob j).need.any s.whollyOffline)

/-- The NO-ENGINE test of one channel (R86). -/
def State.noEngineTest (s : State) (c : ChanIx) : State :=
  match s.unserved c with
  | some j => s.endJob c .failed .noEngine j
  | none => s

/-! ### The head job (R56, R67) -/

/-- An ended job that is silent in this report mode (R67). -/
def Job.silent (j : Job) (mode : Mode) : Bool :=
  mode == .marked && j.state == .done && !j.mark && j.verify != .mismatch

/-- Whether the head of a channel has ended and has not been dealt with (R67). -/
def State.undealt (s : State) (c : ChanIx) : Bool :=
  !(s.channel c).claim && (s.head c).any (fun j => !j.state.live)

/-- An ended head job is removed silently, raising the silent count, or claims an outbox slot (R67, R73). -/
def State.dealHead (s : State) (c : ChanIx) : State :=
  let ch := s.channel c
  match s.head c with
  | none => s
  | some j =>
    if s.undealt c then
      if j.silent ch.mode then s.setChannel c { ch with queue := ch.queue.tail, silent := bump255 ch.silent }
      else s.setChannel c { ch with claim := true }
    else s

/-- A QUEUED head job enters WAITING at once (R56, R58). -/
def State.promoteHead (s : State) (c : ChanIx) : State :=
  match s.headIn c .queued with
  | some j => s.modJob c j.tag (fun j => { j with state := .waiting })
  | none => s

/-! ### Settling -/

/-- Whether a sequencer, the allocator or the slot arbiter has something to do at once. -/
def State.unsettled (s : State) : Bool :=
  allChannels.any (fun c =>
    s.undealt c || (s.headIn c .queued).isSome || (s.unserved c).isSome || (s.startable c).isSome) || s.canGrant

/-- One round: heads dealt with, heads entering WAITING, NO-ENGINE tests, an allocation attempt, one slot granted.
DESIGN CHOICE, log 16. -/
def State.settleRound (s : State) : State :=
  let s := allChannels.foldl State.dealHead s
  let s := allChannels.foldl State.promoteHead s
  let s := allChannels.foldl State.noEngineTest s
  s.attempt.grantStep

/-- At most this many rounds, until nothing is left to do. -/
def State.settleN : Nat → State → State
  | 0, s => s
  | n + 1, s => if s.unsettled then settleN n s.settleRound else s

/-- Everything that follows at once from an event in the sequencers, the allocator and the slot arbiter (R56, R67, R83,
R86, R122). Each of the at most 32 jobs present is dealt with, promoted, failed, started or granted at most once, so
256 rounds are enough. -/
def State.settle (s : State) : State := settleN 256 s

end Sys2Proof.Machine
end

