-- ==== Sys2Proof/Machine/Flags.lean ====
section
/-! DEFINITION. Flags bytes: independent flags, one bit each, bit 0 the least significant, a set flag 1 (R169), and the
layouts that hold them: the bank block (R176), the JOB END (R175), the WATCH NOTICE (R176), the part record
(section 9.4.1). -/

namespace Sys2Proof.Machine

/-- A flag as a number. -/
def bit (b : Bool) : Nat := if b then 1 else 0

/-- A flags byte from its flags, bit 0 first; the other bits are reserved and 0 (R169). -/
def flagsByte : List Bool → Byte
  | [] => 0
  | b :: rest => byteOf (bit b + 2 * (flagsByte rest).toNat)

/-- The bank block (R176): while VALID is clear bytes 1 to 8 are 0, and the counts stand. -/
def bankBlock (i : FaultInfo) : List Byte :=
  (match i.record with
   | none => byteOf i.bank.val :: zeroBytes 8
   | some r =>
     [byteOf i.bank.val, flagsByte [true, i.overflow, r.site.isSome, r.tag.isSome], severityCode r.severity,
       faultKindCode r.kind] ++
     (match r.site with
      | none => zeroBytes 3
      | some (.block h o) => byteOf h :: numBytes o
      | some (.stream n) => byteOf n.val :: zeroBytes 2) ++
     numBytes (r.tag.getD 0)) ++
  [byteOf i.corrected, byteOf i.uncorrected]

/-- The payload of a JOB END (R175). -/
def jobEndPayload (i : JobEndInfo) : List Byte :=
  numBytes i.tag ++
  [byteOf i.channel.val, byteOf i.stream.val, phaseCode i.phase, jobStateCode i.outcome, reasonCode i.reason,
    flagsByte [i.oddTail, i.warned, i.streamFaulted, i.checkValue.isSome]] ++
  numBytes i.leadBytes ++ numBytes i.bytesIn ++ numBytes i.bytesOut ++
  [byteOf i.autoHandle, verifyCode i.verify] ++ quadBytes (i.checkValue.getD 0) ++ [byteOf i.silentCount]

/-- The payload of a WATCH NOTICE (R176). -/
def watchNoticePayload (i : WatchInfo) : List Byte :=
  byteOf i.channel.val :: numBytes i.tag ++ jobStateCode i.jobState :: numBytes i.elapsed

/-- The kind and payload of a report (R153, R175, R176). -/
def reportFrame (r : Report) : Frame :=
  match r.body with
  | .jobEnd i => { seq := r.number, kind := 0x90, payload := jobEndPayload i }
  | .faultNotice i => { seq := r.number, kind := 0x91, payload := bankBlock i }
  | .watchNotice i => { seq := r.number, kind := 0x92, payload := watchNoticePayload i }

/-- Bytes 1 to 8 of a part record (section 9.4.1); an absent optional field has its present byte and value bytes 0. -/
def partFields : PartValue → List Byte
  | .delta previous none => halfBytes previous ++ zeroBytes 6
  | .delta previous (some b) => halfBytes previous ++ [1, b] ++ zeroBytes 4
  | .run none => zeroBytes 8
  | .run (some (v, c)) => [1, v] ++ numBytes c ++ zeroBytes 4
  | .whiten lfsr => halfBytes lfsr ++ zeroBytes 6
  | .check remainder count => quadBytes remainder ++ quadBytes count

/-- What STREAM QUERY finds of one part: no fields given, the fields, or an unreadable copy (section 9.4.1). -/
inductive PartView where
  | absent
  | given (v : PartValue)
  | unreadable
  deriving DecidableEq, Repr

/-- A part record of 9 bytes (section 9.4.1). -/
def partRecord : PartView → List Byte
  | .absent => zeroBytes 9
  | .given v => 0x01 :: partFields v
  | .unreadable => 0x02 :: zeroBytes 8

end Sys2Proof.Machine
end

