-- ==== Sys2Proof/Machine/Receiver.lean ====
section
/-! DEFINITION. The inbound side of the Host Link Controller (R153 to R162): bytes to frames, the CHECK test, the link
state and sequence acceptance. -/

namespace Sys2Proof.Machine

/-! ### Frames as bytes (R153) -/

/-- The bytes that CHECK covers: LEN, SEQ, KIND and the payload (R153). -/
def frameBody (f : Frame) : List Byte := byteOf f.payload.length :: f.seq :: f.kind :: f.payload

/-- CHECK of a frame: the CRC16 of R38 with init 0FFFFH and xorout 0000H (R153). -/
def frameCheck (body : List Byte) : Half := crc16Bytes 0xFFFF body

/-- The bytes of a frame on the link, SYNC first, CHECK low byte first (R153). -/
def encodeFrame (f : Frame) : List Byte := 0xC3 :: frameBody f ++ halfBytes (frameCheck (frameBody f))

/-- The frame that the bytes stored since SYNC hold, CHECK included, or none where CHECK does not agree (R156). -/
def decodeStored (stored : List Byte) : Option Frame :=
  let len := natAt stored 0
  let body := stored.take (3 + len)
  if stored.drop (3 + len) = halfBytes (frameCheck body) then
    some { seq := byteAt stored 1, kind := byteAt stored 2, payload := (stored.drop 3).take len }
  else none

/-! ### RESYNC notices and replies (R160, R161, R165) -/

/-- A RESYNC notice made pending; it replaces the one that stands (R160). -/
def State.makeResync (s : State) (r : ResyncReason) : State := s.setLink { s.link with resync := some r }

/-- A reply at the new end of the transmitter's reply list (R165). -/
def State.queueReply (s : State) (r : Reply) : State := s.setLink { s.link with replies := s.link.replies ++ [r] }

/-- The last four entries of a list, oldest first (R159). -/
def lastFour (l : List Reply) : List Reply := l.drop (l.length - 4)

/-- A reply placed in the reply cache and in the reply list at the same moment (R165). -/
def State.deliver (s : State) (r : Reply) : State :=
  (s.setLink { s.link with cache := lastFour (s.link.cache ++ [r]) }).queueReply r

/-- The reply frame to a request: KIND 80H, the request's SEQ, and the header before the results (R165, R172). -/
def replyFrame (f : Frame) (status : Status) (results : List Byte) : Frame :=
  { seq := f.seq, kind := 0x80, payload := f.kind :: statusCode status :: results }

/-- A frame received in CLOSED that is no LINK OPEN is answered NOT-OPEN, unless 4 such replies wait (R161).
DEDUCED, log 32. -/
def State.answerNotOpen (s : State) (f : Frame) : State :=
  if (s.link.replies.filter (fun r => r.role == .notOpen)).length < 4 then
    s.queueReply { frame := replyFrame f .notOpen [], role := .notOpen }
  else s

/-! ### LINK OPEN acceptance (R162) -/

/-- The frame being sent once a newer LINK OPEN has been accepted: if it is an older LINK OPEN's reply it is finished as
an ordinary one, for only the newest releases the reports (R162, R166).
DEDUCED, log 30. -/
def Outgoing.outdated (o : Outgoing) : Outgoing :=
  match o.source with
  | .reply .linkOpen => { o with source := .reply .ordinary }
  | _ => o

/-- A request taken and not yet answered runs on, and its reply is discarded when it is built (R162). -/
def Decoder.outdated : Decoder → Decoder
  | .busy f h _ => .busy f h true
  | d => d

/-- The acceptance of a LINK OPEN frame, its effects taken together (R162). -/
def State.acceptLinkOpen (s : State) (f : Frame) : State :=
  let l := s.link
  let s := s.setLink { l with
    inbox := [f]
    expected := f.seq + 1
    cache := []
    resync := none
    replies := l.replies.filter (fun r => r.role == .reset)
    sending := l.sending.map Outgoing.outdated
    holdReports := true }
  (s.setDecoder s.decoder.outdated).enterOpen

/-! ### Sequence acceptance (R158, R159) -/

/-- Whether the decoder has taken the request of this number and not yet built its reply (R159). -/
def Decoder.processing (d : Decoder) (seq : Byte) : Bool :=
  match d with
  | .busy f _ _ => f.seq == seq
  | _ => false

/-- A duplicate of the request numbered seq (R159): re-sent from the cache, discarded as in progress, or RESYNC ORDER.
DEDUCED, log 33. -/
def State.duplicate (s : State) (seq : Byte) : State :=
  match s.link.cache.find? (fun r => r.frame.seq == seq) with
  | some r =>
    if s.link.replies.any (fun q => q.frame == r.frame) then s
    else s.queueReply { r with role := if r.role = .reset then .reset else .ordinary }
  | none =>
    if s.link.inbox.any (fun f => f.seq == seq) || s.decoder.processing seq then s else s.makeResync .order

/-- A well-checked frame other than LINK OPEN judged by its SEQ in OPEN (R158). -/
def State.judge (s : State) (f : Frame) : State :=
  let e := s.link.expected
  if f.seq = e then
    if s.link.inbox.length < 4 then s.setLink { s.link with inbox := s.link.inbox ++ [f], expected := e + 1 }
    else s.makeResync .full
  else if f.seq = e - 1 ∨ f.seq = e - 2 ∨ f.seq = e - 3 ∨ f.seq = e - 4 then s.duplicate f.seq
  else s.makeResync .order

/-- A LINK OPEN frame: KIND 01H with LEN 0 (R162). -/
def Frame.isLinkOpen (f : Frame) : Bool := f.kind == 0x01 && f.payload.isEmpty

/-- A well-checked frame taken by link state (R157, R158, R161, R162). -/
def State.takeFrame (s : State) (f : Frame) : State :=
  if f.isLinkOpen then s.acceptLinkOpen f
  else
    match s.link.state with
    | .closed => s.answerNotOpen f
    | .opened => s.judge f
    | .quiet => s.enterOpen.judge f

/-- A complete frame, by the bytes stored since SYNC: a bad CHECK is discarded, with a RESYNC notice unless CLOSED; a
well-checked frame is taken (R156). -/
def State.frameComplete (s : State) (stored : List Byte) : State :=
  match decodeStored stored with
  | some f => s.takeFrame f
  | none => if s.link.state = .closed then s else s.makeResync .check

/-! ### The receiver (R154, R155, R156) -/

/-- The receiver HUNTING with the gap timer stopped (R154, R155). -/
def State.hunt (s : State) : State := s.setLink { s.link with receiver := .hunting, gapTimer := none }

/-- The receiver IN-FRAME with these bytes stored and the gap timer started (R154, R155). -/
def State.keepStored (s : State) (stored : List Byte) : State :=
  s.setLink { s.link with receiver := .inFrame stored, gapTimer := some 0 }

/-- One inbound byte taken by the receiver (R154). -/
def State.receiveByte (s : State) (b : Byte) : State :=
  match s.link.receiver with
  | .hunting => if b = 0xC3 then s.keepStored [] else s
  | .inFrame [] => if b.toNat ≤ 240 then s.keepStored [b] else s.hunt
  | .inFrame (len :: rest) =>
    if rest.length < 3 + len.toNat then s.keepStored (len :: rest ++ [b])
    else s.hunt.frameComplete (len :: rest ++ [b])

/-- A bad character: discarded, with the partial frame it falls in (R156). It exists in UART form only. -/
def State.receiveBad (s : State) : State := if s.link.form = .uart then s.hunt else s

/-- What arrives is received only while the part runs: not in reset and not during start-up (R168). -/
def State.receive (s : State) (x : Inbound) : State :=
  if s.stage = .running then
    match x with
    | .byte b => s.receiveByte b
    | .badCharacter => s.receiveBad
  else s

end Sys2Proof.Machine
end

