-- ==== Sys2Proof/Machine/RequestDecoder.lean ====
section
/-! DEFINITION. The Request Decoder (R164, R165, R171, R172): the taking of the oldest inbox frame, the generic checks, the
answer of the owning block and the building of the reply. -/

namespace Sys2Proof.Machine

/-- What the owning block makes of a request: a reply now, the work of a save or of a job to wait for, or for RESET a
reply after which the decoder takes no further frame (R164). -/
inductive Answer where
  | now (status : Status) (results : List Byte) (s : State)
  | later (hold : Hold) (s : State)
  | stop (s : State)

/-- A reply built (R165): cached and queued, or discarded after a LINK OPEN (R162); the decoder is idle again. -/
def State.buildReply (s : State) (role : ReplyRole) (f : Frame) (discard : Bool) (status : Status)
    (results : List Byte) : State :=
  let s := if discard then s else s.deliver { frame := replyFrame f status results, role := role }
  s.setDecoder .idle

/-- The owner's answer carried out (R164). -/
def State.conclude (role : ReplyRole) (f : Frame) (discard : Bool) : Answer → State
  | .now status results s => s.buildReply role f discard status results
  | .later hold s => s.setDecoder (.busy f hold discard)
  | .stop s => (s.deliver { frame := replyFrame f .ok [], role := .reset }).setDecoder .resetting

/-- The frame the decoder takes: the oldest of the inbox, when the decoder is idle (R164). -/
def State.taken (s : State) : Option (Frame × State) :=
  match s.decoder, s.link.inbox with
  | .idle, f :: rest => some (f, s.setLink { s.link with inbox := rest })
  | _, _ => none

/-- The generic checks after the kind (R164, R171), then the owner. -/
def State.process (role : ReplyRole) (owner : Frame → State → Answer) (f : Frame) (s : State) : State :=
  if lengthAllowed f = false then s.buildReply .ordinary f false .badLength []
  else if reservedSet f then s.buildReply .ordinary f false .badField []
  else State.conclude role f false (owner f s)

/-- The decoder takes a request of this kind, where the oldest inbox frame is one; else the event does not occur.
DESIGN CHOICE, log 3. -/
def State.serve (s : State) (kind : Byte) (role : ReplyRole) (owner : Frame → State → Answer) : State :=
  match s.taken with
  | some (f, s') => if f.kind = kind then State.process role owner f s' else s
  | none => s

/-- The first refusal of a list of checks made in order. -/
def firstRefusal : List (Bool × Status) → Option Status
  | [] => none
  | (fails, st) :: rest => if fails then some st else firstRefusal rest

/-- A request refused by one of its owner's checks changes nothing, else it is carried out (R164). -/
def checked (s : State) (checks : List (Bool × Status)) (accept : Answer) : Answer :=
  match firstRefusal checks with
  | some st => .now st [] s
  | none => accept

end Sys2Proof.Machine
end

