-- ==== Sys2Proof/Machine/BufferRequests.lean ====
section
/-! DEFINITION. The host requests on the buffer store (section 5.3): BUF ALLOC, WRITE, READ, FREE, INFO and STORE SET. -/

namespace Sys2Proof.Machine

/-! ### BUF ALLOC (R103) -/

/-- A buffer as BUF ALLOC makes it, before its blocks are handed to it (R103). -/
def hostBuffer (size : Nat) : Buffer :=
  { freeBuffer with state := .allocated, origin := .host, size := size }

/-- BUF ALLOC (R103): the reserve is a threshold on the free count (R102). -/
def ownBufAlloc (f : Frame) (s : State) : Answer :=
  let size := (halfAt f.payload 0).toNat
  let st := s.store
  checked s
    [(decide (size = 0 ∨ 4096 < size), .badField),
     (decide (st.freeCount < st.reserve + blocksFor size), .noSpace)]
    (match st.freeHandle with
     | none => .now .noHandle [] s
     | some h => .now .ok [byteOf h] (s.setStore ((st.setBuffer h (hostBuffer size)).takeBlocks h (blocksFor size))))

/-! ### BUF WRITE (R104) -/

/-- BUF WRITE (R104). -/
def ownBufWrite (f : Frame) (s : State) : Answer :=
  let h := natAt f.payload 0
  let o := (halfAt f.payload 2).toNat
  let data := f.payload.drop 4
  let b := s.store.buffer h
  checked s
    [(b.state != .allocated, .badHandle),
     (decide (b.size < o + data.length), .badRange),
     (decide (0 < b.useCount), .locked)]
    (.now .ok [] (s.setStore (s.store.writeBytes h o data)))

/-! ### BUF READ (R105) -/

/-- The arrival of one word of a BUF READ at bank 6 (R105, R141). -/
def hostReadArrival (severity : Severity) (h o : Nat) : FaultRecord :=
  { severity := severity, kind := .blockData, site := some (.block h (8 * (o / 8))), tag := none }

/-- The words of a BUF READ from the word that holds byte o, n words on, in buffer order; false where an uncorrectable
word stopped the read (R105). -/
def State.readWords (s : State) (h o : Nat) : Nat → State × Bool
  | 0 => (s, true)
  | n + 1 =>
    match s.store.levelOf h o with
    | .clean => s.readWords h (8 * (o / 8) + 8) n
    | .correctable =>
      ((s.setStore (s.store.correctAt h o)).arrive 6 (hostReadArrival .corrected h o)).readWords h (8 * (o / 8) + 8) n
    | .uncorrectable => (s.arrive 6 (hostReadArrival .uncorrected h o), false)

/-- The bytes of a buffer range (R98). -/
def Store.readBytes (st : Store) (h o n : Nat) : List Byte := (List.range' o n).map (st.readAt h)

/-- BUF READ (R105). -/
def ownBufRead (f : Frame) (s : State) : Answer :=
  let h := natAt f.payload 0
  let o := (halfAt f.payload 2).toNat
  let n := natAt f.payload 4
  let b := s.store.buffer h
  checked s
    [(decide (n = 0 ∨ 236 < n), .badField),
     (b.state != .allocated, .badHandle),
     (decide (b.size < o + n), .badRange),
     (b.outputLocked, .locked)]
    (match s.readWords h o ((o + n - 1) / 8 - o / 8 + 1) with
     | (s', true) => .now .ok (s.store.readBytes h o n) s'
     | (s', false) => .now .dataError [] s')

/-! ### BUF FREE (R106) -/

/-- BUF FREE (R106). -/
def ownBufFree (f : Frame) (s : State) : Answer :=
  let h := natAt f.payload 0
  let b := s.store.buffer h
  checked s
    [(b.state == .free, .badHandle),
     (b.state == .pending || decide (0 < b.useCount), .locked)]
    (.now .ok [] (s.freeBuffer h))

/-! ### BUF INFO (R107) -/

/-- The store summary (R107, R172): waiting channels, oldest first, 0FFH after the last. -/
def Store.summary (st : Store) : List Byte :=
  numBytes st.freeCount ++
  [byteOf (allHandles.filter (fun h => (st.buffer h).state == .free)).length, byteOf st.reserve,
    byteOf st.waitQueue.length] ++
  ((st.waitQueue.map (fun (c : ChanIx) => byteOf c.val)) ++ List.replicate 4 0xFF).take 4

/-- The results for one handle (R172); for a FREE one the state and zeros. -/
def handleResults (b : Buffer) : List Byte :=
  match b.state with
  | .free => zeroBytes 11
  | .allocated | .pending =>
    [handleStateCode b.state, originCode b.origin] ++ numBytes b.size ++
    [byteOf b.blocks.length, byteOf b.useCount, flagsByte [b.inputLocked, b.outputLocked]] ++
    (if b.state = .pending then numBytes b.maximum ++ numBytes b.ownerTag else zeroBytes 4)

/-- BUF INFO (R107). -/
def ownBufInfo (f : Frame) (s : State) : Answer :=
  let h := natAt f.payload 0
  if 48 < h then .now .badHandle [] s
  else if h = 0 then .now .ok s.store.summary s
  else .now .ok (handleResults (s.store.buffer h)) s

/-! ### STORE SET (R108) -/

/-- STORE SET (R108). -/
def ownStoreSet (f : Frame) (s : State) : Answer :=
  let v := natAt f.payload 0
  if 128 < v then .now .badField [] s else .now .ok [] (s.setStore { s.store with reserve := v })

/-! ### The meanings of the six rows -/

/-- BUF_ALLOC. -/
def execBufAlloc (s : State) : Host.Outcome State Fault Refusal := .next (s.serve 0x10 .ordinary ownBufAlloc)

/-- BUF_WRITE. -/
def execBufWrite (s : State) : Host.Outcome State Fault Refusal := .next (s.serve 0x11 .ordinary ownBufWrite)

/-- BUF_READ. -/
def execBufRead (s : State) : Host.Outcome State Fault Refusal := .next (s.serve 0x12 .ordinary ownBufRead)

/-- BUF_FREE. -/
def execBufFree (s : State) : Host.Outcome State Fault Refusal := .next (s.serve 0x13 .ordinary ownBufFree)

/-- BUF_INFO. -/
def execBufInfo (s : State) : Host.Outcome State Fault Refusal := .next (s.serve 0x14 .ordinary ownBufInfo)

/-- STORE_SET. -/
def execStoreSet (s : State) : Host.Outcome State Fault Refusal := .next (s.serve 0x15 .ordinary ownStoreSet)

end Sys2Proof.Machine
end

