-- ==== Sys2Proof/Machine/EngineRequests.lean ====
section
/-! DEFINITION. The engine requests (section 4.6): ENGINE PIN, UNPIN, OFFLINE, RESTORE and QUERY. -/

namespace Sys2Proof.Machine

/-- An engine pinned to a channel, idle and empty (R91). -/
def pinnedEngine (c : ChanIx) : Engine := { freshEngine with state := .bound, binding := .pinned c }

/-- ENGINE PIN (R91). -/
def ownEnginePin (f : Frame) (s : State) : Answer :=
  match engineOf (byteAt f.payload 0), channelOf (byteAt f.payload 1) with
  | some e, some c =>
    checked s
      [((s.engine e).state != .available, .engineState),
       ((s.pinnedEngine c (engineKind e)).isSome, .pinnedKind)]
      (.now .ok [] (s.setEngine e (pinnedEngine c)).attempt)
  | _, _ => .now .badField [] s

/-- The pin removed once there is nothing left to save (R92): SCRUB with binding none, or OFFLINE where offline is due. -/
def State.unpin (s : State) (e : EngineIx) : State :=
  if (s.engine e).offlineDue then s.setEngine e offlineEngine
  else s.setEngine e { freshEngine with state := .scrub }

/-- Whether an engine holds a resident part (R76). -/
def Engine.holdsResident (en : Engine) : Bool :=
  match en.part with
  | .resident _ _ _ => true
  | _ => false

/-- The save of one engine's resident part begun for a request (R90). -/
def State.beginSave (s : State) (e : EngineIx) : State :=
  s.setEngine e { s.engine e with saveInProgress := true }

/-- ENGINE UNPIN (R92): the reply waits for the save of a resident part. -/
def ownEngineUnpin (f : Frame) (s : State) : Answer :=
  match engineOf (byteAt f.payload 0) with
  | none => .now .badField [] s
  | some e =>
    if (s.engine e).state ≠ .bound then .now .engineState [] s
    else if (s.engine e).holdsResident then .later (.unpin e) (s.beginSave e)
    else .now .ok [] (s.unpin e).settle

/-- ENGINE OFFLINE (R93): at once from AVAILABLE, after the save of a resident part from BOUND; then the NO-ENGINE test and
an allocation attempt. -/
def ownEngineOffline (f : Frame) (s : State) : Answer :=
  match engineOf (byteAt f.payload 0) with
  | none => .now .badField [] s
  | some e =>
    match (s.engine e).state with
    | .available => .now .ok [] (s.setEngine e offlineEngine).settle
    | .bound =>
      if (s.engine e).holdsResident then .later (.offline e) (s.beginSave e)
      else .now .ok [] (s.setEngine e offlineEngine).settle
    | .offline => .now .ok [] s
    | .loading | .running | .held | .saving | .scrub => .now .engineState [] s

/-- ENGINE RESTORE (R94): the uncorrected count is cleared and the engine enters SCRUB with binding none. -/
def ownEngineRestore (f : Frame) (s : State) : Answer :=
  match engineOf (byteAt f.payload 0) with
  | none => .now .badField [] s
  | some e =>
    if (s.engine e).state ≠ .offline then .now .engineState [] s
    else
      let b := engineBank e
      .now .ok []
        ((s.setBank b { s.bank b with uncorrected := 0 }).setEngine e { freshEngine with state := .scrub })

/-- The binding and channel bytes of an ENGINE QUERY (R172). -/
def bindingBytes : Binding → List Byte
  | .none => [0x00, 0xFF]
  | .dynamic c => [0x01, byteOf c.val]
  | .pinned c => [0x02, byteOf c.val]

/-- The part held, its stream and which part it is, in an ENGINE QUERY (R172). -/
def partBytes : Part → List Byte
  | .none => [0x00, 0x00, 0x00]
  | .working n w _ => [0x01, byteOf n.val, whichCode w]
  | .resident n w _ => [0x02, byteOf n.val, whichCode w]

/-- The results of an ENGINE QUERY (R95, R172). -/
def State.engineResults (s : State) (e : EngineIx) : List Byte :=
  let en := s.engine e
  [byteOf e.val, kindCode (engineKind e), engineStateCode en.state] ++ bindingBytes en.binding ++ partBytes en.part ++
  numBytes (en.job.getD 0) ++
  [flagsByte [en.saveInProgress, en.offlineDue], byteOf (s.bank (engineBank e)).uncorrected]

/-- ENGINE QUERY (R95). -/
def ownEngineQuery (f : Frame) (s : State) : Answer :=
  match engineOf (byteAt f.payload 0) with
  | none => .now .badField [] s
  | some e => .now .ok (s.engineResults e) s

/-! ### The meanings of the five rows -/

/-- ENGINE_PIN. -/
def execEnginePin (s : State) : Host.Outcome State Fault Refusal := .next (s.serve 0x38 .ordinary ownEnginePin)

/-- ENGINE_UNPIN. -/
def execEngineUnpin (s : State) : Host.Outcome State Fault Refusal := .next (s.serve 0x39 .ordinary ownEngineUnpin)

/-- ENGINE_OFFLINE. -/
def execEngineOffline (s : State) : Host.Outcome State Fault Refusal :=
  .next (s.serve 0x3A .ordinary ownEngineOffline)

/-- ENGINE_RESTORE. -/
def execEngineRestore (s : State) : Host.Outcome State Fault Refusal :=
  .next (s.serve 0x3B .ordinary ownEngineRestore)

/-- ENGINE_QUERY. -/
def execEngineQuery (s : State) : Host.Outcome State Fault Refusal := .next (s.serve 0x3C .ordinary ownEngineQuery)

end Sys2Proof.Machine
end

