-- ==== Sys2Proof/Machine/StreamRequests.lean ====
section
/-! DEFINITION. The stream requests (section 1.6): STREAM OPEN, CLOSE, RESET, QUERY, MOVE and KEY. -/

namespace Sys2Proof.Machine

/-- The entry a request names, when it is open (R1). -/
def State.openStream (s : State) (b : Byte) : Option StreamIx :=
  (streamOf b).filter (fun n => (s.stream n).state != .free)

/-- A key field that differs from the stream's key (R17). -/
def Stream.keyDiffers (x : Stream) (given : Quad) : Bool := x.key.any (· != given)

/-- Whether a part of the stream is in a swap save: a save that LOADING of another stream's job makes (R89). -/
def State.inSwap (s : State) (n : StreamIx) : Bool :=
  allEngines.any (fun e =>
    (s.engine e).state == .loading && (s.engine e).saveInProgress &&
      (match (s.engine e).part with
       | .resident n' _ _ => decide (n' = n)
       | _ => false))

/-- A stream request held while a part of its stream is in a swap save (R89, R164). -/
def State.unlessSwap (s : State) (b : Byte) (then_ : Answer) : Answer :=
  if (streamOf b).any s.inSwap then .later .swapSave s else then_

/-! ### STREAM OPEN (R18) -/

/-- An entry as STREAM OPEN leaves it (R18). -/
def openedStream (home : ChanIx) (p : Profile) : Stream :=
  { state := .atRest, home := home, profile := p, key := none, inFlight := 0, tail := .atRest
    segments := 0, bytesIn := 0, bytesOut := 0
    primaryCopy := { value := initialPart p .primary, level := .clean }
    checkCopy := { value := initialPart p .check, level := .clean } }

/-- The entry STREAM OPEN takes: the one named, or for 0FFH the lowest FREE one (R18). -/
def State.openTarget (s : State) (b : Byte) : Option StreamIx :=
  if b = 0xFF then allStreams.find? (fun n => (s.stream n).state == .free) else streamOf b

/-- STREAM OPEN (R18). -/
def ownStreamOpen (f : Frame) (s : State) : Answer :=
  let p := f.payload
  let b := byteAt p 0
  if b ≠ 0xFF ∧ streamOf b = none then .now .badField [] s
  else
    match s.openTarget b with
    | none => .now .tableFull [] s
    | some n =>
      if (s.stream n).state ≠ .free then .now .streamTaken [] s
      else
        match channelOf (byteAt p 1), profileOf p with
        | some c, some prof => .now .ok [byteOf n.val] (s.setStream n (openedStream c prof))
        | _, _ => .now .badField [] s

/-! ### STREAM CLOSE and STREAM RESET (R19, R20) -/

/-- STREAM CLOSE (R19). -/
def ownStreamClose (f : Frame) (s : State) : Answer :=
  s.unlessSwap (byteAt f.payload 0) <|
  match s.openStream (byteAt f.payload 0) with
  | none => .now .noStream [] s
  | some n =>
    checked s
      [((s.stream n).keyDiffers (quadAt f.payload 1), .keyMismatch),
       (decide (0 < (s.stream n).inFlight), .busy)]
      (.now .ok [] ((s.dropResidents n).setStream n freeStream))

/-- An entry as STREAM RESET leaves it (R20). -/
def Stream.restarted (x : Stream) : Stream :=
  { x with
    state := .atRest, tail := .atRest
    primaryCopy := { value := initialPart x.profile .primary, level := .clean }
    checkCopy := { value := initialPart x.profile .check, level := .clean } }

/-- STREAM RESET (R20). -/
def ownStreamReset (f : Frame) (s : State) : Answer :=
  s.unlessSwap (byteAt f.payload 0) <|
  match s.openStream (byteAt f.payload 0) with
  | none => .now .noStream [] s
  | some n =>
    checked s
      [((s.stream n).keyDiffers (quadAt f.payload 1), .keyMismatch),
       (decide (0 < (s.stream n).inFlight), .busy)]
      (.now .ok [] ((s.dropResidents n).setStream n (s.stream n).restarted))

/-! ### STREAM QUERY (R23) -/

/-- The copy of a part that STREAM QUERY reads, with the engine that keeps it (R23): the table copy while a job of the stream
is in LOADING, RUNNING or HELD, else the copy at the part's owner, resident on its engine or in the table. -/
def State.queriedCopy (s : State) (n : StreamIx) (flight : Bool) (w : Which) : Option EngineIx × Copy :=
  let holder := if flight then none else s.residentOn n w
  match holder.map (fun e => (s.engine e).part) with
  | some (.resident _ _ k) => (holder, k)
  | _ => (none, (s.stream n).copy w)

/-- One copy read by STREAM QUERY through its check code: a correctable one is written back, and no bank takes an arrival
(R7, R23). -/
def State.queryPart (s : State) (n : StreamIx) (flight : Bool) (w : Which) : State × PartView :=
  match s.queriedCopy n flight w with
  | (holder, k) =>
    match k.level, holder with
    | .clean, _ => (s, .given k.value)
    | .uncorrectable, _ => (s, .unreadable)
    | .correctable, some e => (s.setPart e (.resident n w { k with level := .clean }), .given k.value)
    | .correctable, none => (s.writeCopy n w k.value, .given k.value)

/-- The context fields of a STREAM QUERY (R23): state after, primary record, check record, and the flags IN-FLIGHT,
WITHHELD and UNREADABLE. -/
def State.queryContext (s : State) (n : StreamIx) (given : Quad) : State × PartView × PartView × List Bool :=
  let x := s.stream n
  let flight := s.streamHasJob n (fun st => st == .loading || st == .running || st == .held)
  let two := x.profile.secondary == .check
  if x.keyDiffers given then (s, .absent, .absent, [false, true, false])
  else
    match x.state with
    | .free | .faulted => (s, .absent, .absent, [false, false, false])
    | .atRest =>
      (s, .given (initialPart x.profile .primary),
        if two then .given (initialPart x.profile .check) else .absent, [flight, false, false])
    | .inRecord =>
      let (s, a) := s.queryPart n flight .primary
      let (s, b) := if two then s.queryPart n flight .check else (s, .absent)
      (s, a, b, [flight, false, a == .unreadable || b == .unreadable])

/-- The results of a STREAM QUERY (section 9.4.1). -/
def queryResults (x : Stream) (a b : PartView) (flags : List Bool) : List Byte :=
  [recordCode x.state, recordCode x.tail, byteOf x.home.val] ++ profileBytes x.profile ++
  [flagsByte (x.key.isSome :: flags), byteOf x.inFlight] ++
  quadBytes x.segments ++ quadBytes x.bytesIn ++ quadBytes x.bytesOut ++ partRecord a ++ partRecord b

/-- STREAM QUERY (R23): held while a job of the stream is in SAVING. -/
def ownStreamQuery (f : Frame) (s : State) : Answer :=
  s.unlessSwap (byteAt f.payload 0) <|
  match s.openStream (byteAt f.payload 0) with
  | none => .now .noStream [] s
  | some n =>
    if s.streamHasJob n (fun st => st == .saving) then .later .savingQuery s
    else
      let (s', a, b, flags) := s.queryContext n (quadAt f.payload 1)
      .now .ok (queryResults (s.stream n) a b flags) s'

/-! ### STREAM MOVE (R21) -/

/-- Whether a save that a request made is in progress: one on a BOUND engine (R90). -/
def State.requestSaving (s : State) : Bool :=
  allEngines.any (fun e => (s.engine e).state == .bound && (s.engine e).saveInProgress)

/-- The saves of every resident part of a stream begun (R9, R21, R90). -/
def State.beginSaves (s : State) (n : StreamIx) : State :=
  allEngines.foldl (fun s e =>
    match (s.engine e).part with
    | .resident n' _ _ => if n' = n then s.setEngine e { s.engine e with saveInProgress := true } else s
    | _ => s) s

/-- The home channel changed (R3, R21). -/
def State.setHome (s : State) (n : StreamIx) (c : ChanIx) : State := s.setStream n { s.stream n with home := c }

/-- STREAM MOVE (R21). -/
def ownStreamMove (f : Frame) (s : State) : Answer :=
  s.unlessSwap (byteAt f.payload 0) <|
  match channelOf (byteAt f.payload 1) with
  | none => .now .badField [] s
  | some c =>
    match s.openStream (byteAt f.payload 0) with
    | none => .now .noStream [] s
    | some n =>
      checked s
        [((s.stream n).keyDiffers (quadAt f.payload 2), .keyMismatch),
         (decide (0 < (s.stream n).inFlight), .busy)]
        (let s := s.beginSaves n
         if s.requestSaving then .later (.move n c) s else .now .ok [] (s.setHome n c))

/-! ### STREAM KEY (R22) -/

/-- STREAM KEY (R22). -/
def ownStreamKey (f : Frame) (s : State) : Answer :=
  let given := quadAt f.payload 1
  match s.openStream (byteAt f.payload 0) with
  | none => .now .noStream [] s
  | some n =>
    if given = 0 then .now .badField [] s
    else
      match (s.stream n).key with
      | none => .now .ok [] (s.setStream n { s.stream n with key := some given })
      | some k =>
        if k = given then .now .ok [] (s.setStream n { s.stream n with key := none })
        else .now .keyMismatch [] s

/-! ### The meanings of the six rows -/

/-- STREAM_OPEN. -/
def execStreamOpen (s : State) : Host.Outcome State Fault Refusal := .next (s.serve 0x20 .ordinary ownStreamOpen)

/-- STREAM_CLOSE. -/
def execStreamClose (s : State) : Host.Outcome State Fault Refusal := .next (s.serve 0x21 .ordinary ownStreamClose)

/-- STREAM_RESET. -/
def execStreamReset (s : State) : Host.Outcome State Fault Refusal := .next (s.serve 0x22 .ordinary ownStreamReset)

/-- STREAM_QUERY. -/
def execStreamQuery (s : State) : Host.Outcome State Fault Refusal := .next (s.serve 0x23 .ordinary ownStreamQuery)

/-- STREAM_MOVE. -/
def execStreamMove (s : State) : Host.Outcome State Fault Refusal := .next (s.serve 0x24 .ordinary ownStreamMove)

/-- STREAM_KEY. -/
def execStreamKey (s : State) : Host.Outcome State Fault Refusal := .next (s.serve 0x25 .ordinary ownStreamKey)

end Sys2Proof.Machine
end

