-- ==== Sys2Proof/Machine/JobEvents.lean ====
section
/-! DEFINITION. The events of jobs, engines and stall watch: SAVE_END, LOADING_END, BYTE_STEP, TRANSFORM_WORK_END,
SAVING_END, ENGINE_SELF_CHECK_FAULT, SCRUB_COMPLETION, WARN_EXPIRY and LIMIT_EXPIRY; and the two error events. -/

namespace Sys2Proof.Machine

/-! ### Held requests that proceed (R23, R89, R164) -/

/-- The owner of a stream request that can be held until a save has ended (R89). -/
def heldOwner (f : Frame) : Frame → State → Answer :=
  match f.kind.toNat with
  | 0x21 => ownStreamClose
  | 0x22 => ownStreamReset
  | 0x24 => ownStreamMove
  | _ => ownStreamQuery

/-- A stream request held by a swap save or by SAVING is taken again; its owner holds it on where the save still stands
(R23, R89).
DESIGN CHOICE, log 24. -/
def State.retake (s : State) : State :=
  match s.decoder with
  | .busy f .swapSave discard => State.conclude .ordinary f discard (heldOwner f f s)
  | .busy f .savingQuery discard => State.conclude .ordinary f discard (ownStreamQuery f s)
  | _ => s

/-! ### SAVE_END (R9, R21, R90, R92, R93) -/

/-- What the end of a save brings the request that the decoder is busy with, where no save that it made is left (R90): a
STREAM MOVE changes the home channel (R21), an UNPIN removes the pin (R92), an OFFLINE takes its engine OFFLINE (R93),
and the reply is built. A save ends at its own SAVE_END, or with the drop of its part (R14). -/
def State.requestSaved (s : State) : State :=
  match s.decoder with
  | .busy f (.move n c) discard =>
    if s.requestSaving then s else (s.setHome n c).buildReply .ordinary f discard .ok []
  | .busy f (.unpin e) discard =>
    if (s.engine e).saveInProgress then s else (s.unpin e).buildReply .ordinary f discard .ok []
  | .busy f (.offline e) discard =>
    if (s.engine e).saveInProgress then s else (s.setEngine e offlineEngine).buildReply .ordinary f discard .ok []
  | _ => s

/-- The save of an engine ended (R9, R90): the copy is written or the loss found, and the request that waits for saves
proceeds. An engine that STREAM MOVE leaves BOUND goes OFFLINE where the save's read set its offline due (R96). -/
def State.concludeSave (s : State) (e : EngineIx) : State :=
  let s := (s.saveResident e).requestSaved
  if (s.engine e).state = .bound ∧ (s.engine e).offlineDue then s.setEngine e offlineEngine else s

/-- SAVE_END (R9): the save ends, a stream request held behind a swap save is taken again, and an allocation attempt follows
(R83).
DESIGN CHOICE, log 4. -/
def State.saveEnd (s : State) (e : EngineIx) : State :=
  if (s.engine e).saveInProgress then (s.concludeSave e).retake.settle else s

/-! ### LOADING_END (R11, R59, R70) -/

/-- The reply to a JOB ABORT that waits on the LOADING job of a channel (R70). -/
def State.answerAbort (s : State) (c : ChanIx) (status : Status) : State :=
  match s.decoder with
  | .busy f (.abort c') discard => if c' = c then s.buildReply .ordinary f discard status [] else s
  | _ => s

/-- LOADING that ended in a loss of the stream's context (R14, R59). -/
def State.loadLost (s : State) (c : ChanIx) (j : Job) : State :=
  let s := s.enterFaulted j.stream
  let s := s.modJob c j.tag (fun j => { j with streamFaulted := true })
  (s.endJob c .failed .contextError j).answerAbort c .tooLate

/-- LOADING that ended with every part loaded (R59): the held end cause is applied, or the job enters RUNNING, a progress
event (R135). -/
def State.loadDone (s : State) (c : ChanIx) (j : Job) : State :=
  match j.heldCause with
  | some .abort => (s.endJob c .aborted .none j).answerAbort c .ok
  | some .limit => (s.endJob c .failed .stalled j).answerAbort c .tooLate
  | none =>
    let s := s.modJob c j.tag (fun j => { j with state := .running })
    (s.setWorkers j .running).progress c

/-- Whether a swap save of the job's LOADING is still in progress (R89).
DEDUCED, log 19. -/
def State.swapping (s : State) (j : Job) : Bool := j.workers.any (fun ew => (s.engine ew.1).saveInProgress)

/-- LOADING_END (R59): the checkpoints and working copies are formed; the work cannot end while a swap save is in
progress (R9). -/
def State.loadingEnd (s : State) (c : ChanIx) : State :=
  match s.headIn c .loading with
  | none => s
  | some j =>
    if s.swapping j then s
    else
      match s.loadParts j with
      | (s, true) => (s.loadDone c j).settle
      | (s, false) => (s.loadLost c j).settle

/-! ### BYTE_STEP (R26 to R37, R43 to R45, R111, R115) -/

/-- The error arrival of an input word (R115, R141). -/
def inputArrival (severity : Severity) (tag h o : Nat) : FaultRecord :=
  { severity := severity, kind := .blockData, site := some (.block h (8 * (o / 8))), tag := some tag }

/-- The read of the word that holds byte o of an input buffer, made by an engine for the job with this tag (R27, R98,
R115): the error is handled and arrives at the engine's bank. -/
def State.readWord (s : State) (e : EngineIx) (tag h o : Nat) : State :=
  match s.store.levelOf h o with
  | .clean => s
  | .correctable =>
    (s.setStore (s.store.correctAt h o)).arrive (engineBank e) (inputArrival .corrected tag h o)
  | .uncorrectable => s.arrive (engineBank e) (inputArrival .uncorrected tag h o)

/-- The byte at offset o of an input buffer as an engine of the job takes it (R27, R115): the read of a word is made once,
at its first needed byte, and its other needed bytes are taken from that read; none where the read finds the word
uncorrectable.
DESIGN CHOICE, log 25. -/
def State.readInput (s : State) (e : EngineIx) (j : Job) (h o : Nat) : State × Option Byte :=
  let v := s.store.readAt h o
  if j.hasRead e h o then (s, some v)
  else (s.readWord e j.tag h o, if s.store.levelOf h o = .uncorrectable then none else some v)

/-- A PREFIX byte fed to the CHECK part (R26, R28). -/
def State.feedLead (s : State) (c : ChanIx) (j : Job) (op : Operand) : State :=
  let p := s.profileOfJob j
  match j.checkEngine p with
  | none => s
  | some e =>
    let o := op.offset + j.leadFed
    match s.readInput e j op.handle o with
    | (s, none) => (s.endJob c .failed .dataError (j.noteRead e op.handle o)).settle
    | (s, some b) =>
      let s := s.feedEngine p.variant e b
      (s.modJob c j.tag (fun j => { j.noteRead e op.handle o with leadFed := j.leadFed + 1 })).progress c

/-- A DATA byte consumed by the primary part (R26, R28), and seen by a check part with tap INPUT. Where it has bytes to write
the working copy is stepped when the last of them is written (R29, R30, R33, R34), and the byte stays in hand till then. -/
def State.consumeData (s : State) (c : ChanIx) (j : Job) (op : Operand) (k : Nat) : State :=
  let p := s.profileOfJob j
  match j.engines with
  | none => s
  | some (e, _) =>
    let o := op.offset + k
    match s.readInput e j op.handle o with
    | (s, none) => (s.endJob c .failed .dataError (j.noteRead e op.handle o)).settle
    | (s, some b) =>
      match (s.engine e).part with
      | .working n w v =>
        let (v', due) := consumeByte p v b
        let s := if due = [] then s.setPart e (.working n w v') else s
        let s := s.modJob c j.tag (fun j => { j.noteRead e op.handle o with
          dataConsumed := j.dataConsumed + 1, due := due, inHand := if due = [] then none else some b })
        (s.tapByte j p .input b).progress c
      | _ => s

/-- The primary engine needs a block and none is free: job and engine go HELD and the channel joins the wait queue
(R44, R60, R111). -/
def State.enterHeld (s : State) (c : ChanIx) (j : Job) : State :=
  let s := s.modJob c j.tag (fun j => { j with state := .held })
  let s := s.setPrimary j .held
  (s.setStore { s.store with waitQueue := s.store.waitQueue ++ [c] }).progress c

/-- The first due byte written, or FAILED OUT-FULL, or HELD (R43, R44, R111). -/
def State.outputStep (s : State) (c : ChanIx) (j : Job) : State :=
  if j.outWritten = j.outCapacity then (s.endJob c .failed .outFull j).settle
  else if j.isAuto ∧ j.outWritten % 64 = 0 then
    if s.store.freeCount = 0 then s.enterHeld c j
    else (s.setStore (s.store.takeBlock j.autoHandle)).writeDue c j
  else s.writeDue c j

/-- The bytes of the primary's finalize step, from its working copy (R26). -/
def State.finalBytes (s : State) (j : Job) : List Byte :=
  match j.engines with
  | none => []
  | some (e, _) =>
    match (s.engine e).part with
    | .working _ _ v => finalizeBytes (s.profileOfJob j) v
    | _ => []

/-- The finalize bytes that a final phase still has to write once all its DATA is consumed (R26).
DESIGN CHOICE, log 26. -/
def State.pendingFinal (s : State) (j : Job) : List Byte :=
  if j.phase.final && !j.finalized then s.finalBytes j else []

/-- One byte step of a RUNNING job, in the order of R26: a due byte written, else a PREFIX byte fed, else a DATA byte
consumed, else the first byte of the primary's finalize step written. -/
def State.stepJob (s : State) (c : ChanIx) (j : Job) : State :=
  if j.due ≠ [] then s.outputStep c j
  else
    match j.nextLead, j.nextData with
    | some op, _ => s.feedLead c j op
    | none, some (op, k) => s.consumeData c j op k
    | none, none =>
      let due := s.pendingFinal j
      if due = [] then s
      else
        let f : Job → Job := fun j => { j with due := due, inHand := none, finalized := true }
        (s.modJob c j.tag f).outputStep c (f j)

/-- After an arrival at the bank of an engine without a job: an OFFLINE engine has no offline due (R96), one in SCRUB keeps
what the trigger set (R86, R143). -/
def State.dropDue (s : State) (e : EngineIx) : State :=
  if (s.engine e).state = .offline then s.setEngine e { s.engine e with offlineDue := false } else s

/-- The read of the input word that was due when the job of the channel ended, made at that same moment (R138, R146).
DESIGN CHOICE, log 43. -/
def State.lateRead (s : State) (c : ChanIx) : State :=
  match s.late.find? (fun l => decide (l.channel = c) && l.finding != .selfCheck) with
  | some l =>
    match l.finding with
    | .selfCheck => s
    | .inputWord h o => ((s.setLate (s.late.erase l)).readWord l.engine l.tag h o).dropDue l.engine
  | none => s

/-- BYTE_STEP (R26); where no job of the channel runs, the read that was due when the job ended (R138). -/
def State.byteStep (s : State) (c : ChanIx) : State :=
  match s.headIn c .running with
  | some j => s.stepJob c j
  | none => s.lateRead c

/-! ### TRANSFORM_WORK_END (R25, R41, R42, R46, R61) -/

/-- Every byte fed and written, the primary's finalize step done (R46). -/
def State.workDone (s : State) (j : Job) : Bool :=
  j.due.isEmpty && j.nextLead.isNone && j.nextData.isNone && (s.pendingFinal j).isEmpty

/-- The CHECK finalize step (R41, R42): the check value formed, written to CHECK-OUT, kept and verified. -/
def State.finalizeCheck (s : State) (c : ChanIx) (j : Job) : State :=
  let p := s.profileOfJob j
  match (j.checkEngine p).map (fun e => (s.engine e).part) with
  | some (.working _ _ (.check remainder _)) =>
    let v := checkValueOf p remainder
    let s :=
      match j.checkOutOperand with
      | some op => (s.setStore (s.store.writeBytes op.handle op.offset (checkValueBytes p v))).progress c
      | none => s
    s.modJob c j.tag (fun j => { j with checkValue := some v, verify := verifyOf p j.expect v })
  | _ => s

/-- Every working copy of the job set to its initial value, as a final phase leaves it (R25). -/
def State.reinitialize (s : State) (j : Job) : State :=
  j.workers.foldl (fun s ew => s.setPart ew.1 (.working j.stream ew.2 (initialPart (s.profileOfJob j) ew.2))) s

/-- The finalization of a final phase (R25, R41). -/
def State.finalize (s : State) (c : ChanIx) (j : Job) : State :=
  if j.phase.final then
    (if (s.profileOfJob j).hasCheck then s.finalizeCheck c j else s).reinitialize j
  else s

/-- Whether an engine of the job is dynamic (R61). -/
def State.anyDynamic (s : State) (j : Job) : Bool :=
  j.workers.any (fun ew => match (s.engine ew.1).binding with | .pinned _ => false | _ => true)

/-- TRANSFORM_WORK_END (R46, R61). -/
def State.workEnd (s : State) (c : ChanIx) : State :=
  match s.headIn c .running with
  | none => s
  | some j =>
    if s.workDone j then
      let s := s.finalize c j
      if s.anyDynamic j then
        let s := s.modJob c j.tag (fun j => { j with state := .saving })
        (s.setWorkers j .saving).progress c
      else (s.endJob c .done .none j).settle
    else s

/-! ### SAVING_END (R12, R61) -/

/-- SAVING_END (R61): every save of the job has ended, the job ends DONE, and a held STREAM QUERY proceeds. The table copies
are written at this moment.
DESIGN CHOICE, log 44. -/
def State.savingEnd (s : State) (c : ChanIx) : State :=
  match s.headIn c .saving with
  | some j => ((s.endJob c .done .none j).retake).settle
  | none => s

/-! ### ENGINE_SELF_CHECK_FAULT (R79, R145) -/

/-- The INTERNAL arrival of a self-check (R141). -/
def internalArrival (tag : Nat) : FaultRecord :=
  { severity := .uncorrected, kind := .internal, site := none, tag := some tag }

/-- The fault of an engine's self-check taken: it is open no more. -/
def State.faultTaken (s : State) (e : EngineIx) : State :=
  s.setLate (s.late.filter (fun l => !(decide (l.engine = e) && l.finding == .selfCheck)))

/-- A fault of engine e in its working copy while the job of channel c is RUNNING or HELD (R79). -/
def State.faultWorking (s : State) (c : ChanIx) (e : EngineIx) (j : Job) : State :=
  (((s.arrive (engineBank e) (internalArrival j.tag)).endJob c .failed .engineFault j).faultTaken e).settle

/-- The loads of the job's parts, primary first, up to the part of engine e (R59, log 17); false where one of them is lost,
so that the engine holds no working copy. -/
def State.loadUpTo (s : State) (j : Job) (e : EngineIx) : State × Bool :=
  if j.engines.map (·.1) = some e then s.loadPart j e .primary else s.loadParts j

/-- A fault of engine e in LOADING (R57, R59, R79, R145): the swap saves of the job's other engine end, the parts are loaded
up to the engine's own, without which it holds no working copy, the fault arrives, and the job ends FAILED ENGINE-FAULT
(R96) with its stream as it was (R2, R13). The fault ends the LOADING work: a part after the engine's own is not read, so
that its checkpoint stands in the table copy and no loss of it is found (R11).
DESIGN CHOICE, log 20. -/
def State.faultLoading (s : State) (c : ChanIx) (e : EngineIx) (j : Job) : State :=
  let saved := j.workers.foldl (fun s ew => if (s.engine ew.1).saveInProgress then s.concludeSave ew.1 else s) s
  match saved.loadUpTo j e with
  | (_, false) => s
  | (s, true) =>
    let s := s.arrive (engineBank e) (internalArrival j.tag)
    (((s.endJob c .failed .engineFault j).faultTaken e).answerAbort c .tooLate).retake.settle

/-- A fault that the self-check of an engine found at the moment at which its job had ended (R138, R145).
DESIGN CHOICE, log 43. -/
def State.lateFault (s : State) (e : EngineIx) : State :=
  match s.late.find? (fun l => decide (l.engine = e) && l.finding == .selfCheck) with
  | some l => ((s.setLate (s.late.erase l)).arrive (engineBank e) (internalArrival l.tag)).dropDue e
  | none => s

/-- The channel an engine is bound to (R77). -/
def Binding.channel : Binding → Option ChanIx
  | .none => Option.none
  | .dynamic c => some c
  | .pinned c => some c

/-- The job an engine works for, with its channel. -/
def State.jobOn (s : State) (e : EngineIx) : Option (ChanIx × Job) :=
  match (s.engine e).binding.channel with
  | none => none
  | some c => ((s.head c).filter (fun j => j.workers.any (fun ew => ew.1 == e))).map (fun j => (c, j))

/-- ENGINE_SELF_CHECK_FAULT (R79): the self-check runs while the engine holds its working copy in LOADING, RUNNING and
HELD; on an engine whose job has just ended, the fault of that moment (R138). -/
def State.selfCheckFault (s : State) (e : EngineIx) : State :=
  match s.jobOn e with
  | none => s.lateFault e
  | some (c, j) =>
    match j.state with
    | .running | .held => s.faultWorking c e j
    | .loading => if (s.engine e).saveInProgress then s else s.faultLoading c e j
    | .queued | .waiting | .saving | .done | .failed | .aborted | .cancelled => s

/-! ### SCRUB_COMPLETION (R81) -/

/-- SCRUB_COMPLETION (R81): AVAILABLE, or BOUND if pinned, and an allocation attempt (R83). Where a fault of the moment of
the job's end has set offline due in SCRUB (R86, R138), the engine goes OFFLINE now, when its present work ends (R143).
What was open at the job's end is open no more.
DEDUCED, log 47. -/
def State.scrubEnd (s : State) (e : EngineIx) : State :=
  let en := s.engine e
  if en.state = .scrub then
    let s := s.setLate (s.late.filter (fun l => l.engine != e))
    if en.offlineDue then (s.setEngine e offlineEngine).settle
    else
      let st : EngineState :=
        match en.binding with
        | .pinned _ => .bound
        | _ => .available
      (s.setEngine e { en with state := st }).attempt
  else s

/-! ### WARN_EXPIRY and LIMIT_EXPIRY (R136, R137) -/

/-- WARN_EXPIRY (R136): a running timer with WARN not 0 and WARN taken clear (R133). -/
def State.warnEnd (s : State) (c : ChanIx) : State :=
  let w := s.watch c
  match w.timer, s.head c with
  | some t, some j =>
    if w.warn ≠ 0 ∧ w.warnTaken = false then
      let s := s.catchUp (some t) w.warn
      let s := s.setWatch c { s.watch c with warnTaken := true }
      let s := s.modJob c j.tag (fun j => { j with warned := true })
      (s.setWatchPending c (some j.tag)).grantStep
    else s
  | _, _ => s

/-- LIMIT_EXPIRY (R137): the timer stops; then by the head job's state. -/
def State.limitEnd (s : State) (c : ChanIx) : State :=
  let w := s.watch c
  match w.timer, s.head c with
  | some t, some j =>
    if w.limit ≠ 0 then
      let s := s.catchUp (some t) w.limit
      let s := s.setWatch c { s.watch c with timer := none }
      match j.state with
      | .loading => s.modJob c j.tag (fun j => { j with heldCause := j.heldCause.or (some .limit) })
      | .running | .held => (s.endJob c .failed .stalled j).settle
      | .queued | .waiting | .saving | .done | .failed | .aborted | .cancelled => s
    else s
  | _, _ => s

/-! ### The error events (R7, R98) -/

/-- STORED_WORD_ERROR_EVENT (R98): the level of a word rises by one step; on a free block it has no effect that can be
seen, and none here.
DEDUCED, log 29. -/
def State.wordError (s : State) (block word : Nat) : State :=
  if s.store.heldBlocks.contains block then
    let w := 8 * block + word
    s.setStore (s.store.setLevel w (raiseLevel (s.store.levelAt w)))
  else s

/-- CONTEXT_COPY_ERROR_EVENT (R7): a table copy of an open stream, or the resident copy an engine keeps. -/
def State.copyError (s : State) (site : CopySite) (level : ErrLevel) : State :=
  match site with
  | .table n w =>
    if (s.stream n).state = .free then s
    else s.setStream n ((s.stream n).setCopy w (((s.stream n).copy w).disturb level))
  | .resident e =>
    match (s.engine e).part with
    | .resident n w k => s.setPart e (.resident n w (k.disturb level))
    | _ => s

/-! ### The meanings of the rows -/

/-- SAVE_END. -/
def execSaveEnd (e : EngineIx) (s : State) : Host.Outcome State Fault Refusal := .next (s.saveEnd e)

/-- LOADING_END. -/
def execLoadingEnd (c : ChanIx) (s : State) : Host.Outcome State Fault Refusal := .next (s.loadingEnd c)

/-- BYTE_STEP. -/
def execByteStep (c : ChanIx) (s : State) : Host.Outcome State Fault Refusal := .next (s.byteStep c)

/-- TRANSFORM_WORK_END. -/
def execTransformWorkEnd (c : ChanIx) (s : State) : Host.Outcome State Fault Refusal := .next (s.workEnd c)

/-- SAVING_END. -/
def execSavingEnd (c : ChanIx) (s : State) : Host.Outcome State Fault Refusal := .next (s.savingEnd c)

/-- ENGINE_SELF_CHECK_FAULT. -/
def execEngineSelfCheckFault (e : EngineIx) (s : State) : Host.Outcome State Fault Refusal :=
  .next (s.selfCheckFault e)

/-- SCRUB_COMPLETION. -/
def execScrubCompletion (e : EngineIx) (s : State) : Host.Outcome State Fault Refusal := .next (s.scrubEnd e)

/-- WARN_EXPIRY. -/
def execWarnExpiry (c : ChanIx) (s : State) : Host.Outcome State Fault Refusal := .next (s.warnEnd c)

/-- LIMIT_EXPIRY. -/
def execLimitExpiry (c : ChanIx) (s : State) : Host.Outcome State Fault Refusal := .next (s.limitEnd c)

/-- STORED_WORD_ERROR_EVENT. -/
def execStoredWordErrorEvent (block : Fin 512) (word : Fin 8) (s : State) : Host.Outcome State Fault Refusal :=
  .next (s.wordError block.val word.val)

/-- CONTEXT_COPY_ERROR_EVENT. -/
def execContextCopyErrorEvent (site : CopySite) (level : ErrLevel) (s : State) : Host.Outcome State Fault Refusal :=
  .next (s.copyError site level)

end Sys2Proof.Machine
end

