-- ==== Sys2Proof/Machine/JobRequests.lean ====
section
/-! DEFINITION. The job and channel requests (chapter 3): JOB SUBMIT, JOB ABORT, CHANNEL SET and CHANNEL QUERY. -/

namespace Sys2Proof.Machine

/-! ### The fields of a JOB SUBMIT (R174) -/

/-- Operand entry i of a JOB SUBMIT payload, or none where its role code is undefined (R51, R174). -/
def operandAt (p : List Byte) (i : Nat) : Option Operand :=
  let a := 13 + 6 * i
  (roleOf (byteAt p a)).map (fun role =>
    { role := role, handle := natAt p (a + 1), offset := (halfAt p (a + 2)).toNat
      length := (halfAt p (a + 4)).toNat })

/-- The operand list of a JOB SUBMIT, or none where a role code is undefined (R51). -/
def operandsFrom (p : List Byte) (i : Nat) : Nat → Option (List Operand)
  | 0 => some []
  | n + 1 =>
    match operandAt p i, operandsFrom p (i + 1) n with
    | some op, some rest => some (op :: rest)
    | _, _ => none

/-- The operands of a JOB SUBMIT payload, as many as byte 12 says (R174). -/
def operandsOf (p : List Byte) : Option (List Operand) := operandsFrom p 0 (natAt p 12)

/-! ### Checks 7 to 11 of JOB SUBMIT (R51, R52) -/

/-- An operand that asks for an AUTO buffer (R51). -/
def Operand.asksAuto (op : Operand) : Bool := op.role == .out && op.handle == 0xFF

/-- How many operands have this role. -/
def roleCount (ops : List Operand) (r : Role) : Nat := (ops.filter (fun op => op.role == r)).length

/-- The rules on one operand alone (R51). -/
def Operand.allowed (p : Profile) (phase : Phase) (op : Operand) : Bool :=
  decide (op.length ≤ 4096) &&
  (op.handle != 0xFF || (op.role == .out && op.offset == 0)) &&
  (match op.role with
   | .lead => p.hasCheck
   | .data => true
   | .out => p.kind != .check
   | .checkOut => p.hasCheck && phase.final && op.length == p.checkSize)

/-- Check 7 (R51). -/
def operandsAllowed (p : Profile) (phase : Phase) (expect : Bool) (ops : List Operand) : Bool :=
  ops.all (Operand.allowed p phase) &&
  decide (roleCount ops .lead ≤ 1) && decide (roleCount ops .data ≤ 4) && decide (roleCount ops .checkOut ≤ 1) &&
  (p.kind == .check || roleCount ops .out == 1) &&
  (!expect || (p.hasCheck && phase.final))

/-- Two ranges share a byte (R52); a range of length 0 shares none. -/
def sharesByte (a b : Operand) : Bool :=
  decide (0 < a.length ∧ 0 < b.length ∧ a.offset < b.offset + b.length ∧ b.offset < a.offset + a.length)

/-- Two operands that check 11 does not allow together (R52). -/
def clash (a b : Operand) : Bool :=
  a.handle == b.handle && !a.asksAuto && !b.asksAuto &&
  (if a.role.isInput ∧ !b.role.isInput then true
   else a.role == .out && b.role == .checkOut && sharesByte a b)

/-- Checks 8 to 11 on the operands other than an AUTO OUT (R50, R52). -/
def bufferChecks (st : Store) (ops : List Operand) : List (Bool × Status) :=
  let named := ops.filter (fun op => !op.asksAuto)
  [(named.any (fun op => (st.buffer op.handle).state != .allocated), .badHandle),
   (named.any (fun op => decide ((st.buffer op.handle).size < op.offset + op.length)), .badRange),
   (named.any (fun op =>
      if op.role.isInput then (st.buffer op.handle).outputLocked
      else decide (0 < (st.buffer op.handle).useCount)), .locked),
   (named.any (fun a => named.any (clash a)), .overlap)]

/-! ### Acceptance (R49, R53) -/

/-- The tag after a tag: 1 after 65535 (R49). -/
def tagAfter (t : Nat) : Nat := if t = 65535 then 1 else t + 1

/-- The first tag from t onward that no present job has; at most 32 jobs are present, so 33 tries suffice (R49). -/
def unusedTag (used : List Nat) : Nat → Nat → Nat
  | 0, t => t
  | n + 1, t => if used.contains t then unusedTag used n (tagAfter t) else t

/-- The tag the next accepted job is given (R49). -/
def State.newTag (s : State) : Nat := unusedTag (s.jobs.map (·.tag)) 33 s.nextTag

/-- The AUTO buffer made at acceptance (R110); its use count and lock come with the job's hold. -/
def autoBuffer (op : Operand) (tag : Nat) : Buffer :=
  { freeBuffer with
    state := .pending, origin := .auto, maximum := if op.length = 0 then 4096 else op.length, ownerTag := tag }

/-- A job record as acceptance makes it (R53). -/
def acceptedJob (tag : Nat) (c : ChanIx) (n : StreamIx) (phase : Phase) (mark : Bool) (expect : Option Quad)
    (ops : List Operand) (autoHandle : Nat) : Job :=
  { tag := tag, channel := c, stream := n, phase := phase, mark := mark, expect := expect
    operands := ops.map (fun op => if op.asksAuto then { op with handle := autoHandle } else op)
    state := .queued, reason := .none, abortMark := false, heldCause := none, engines := none
    leadFed := 0, dataConsumed := 0, outWritten := 0, oddTail := false, warned := false, streamFaulted := false
    checkValue := none, verify := .none, autoHandle := autoHandle, due := [], inHand := none, finalized := false
    wordsRead := [] }

/-- The effects of acceptance (R53): tag, AUTO buffer, holds on buffers, stream accounting, queue entry. -/
def State.acceptJob (s : State) (j : Job) (auto : Option Operand) : State :=
  let st :=
    match auto with
    | some op => s.store.setBuffer j.autoHandle (autoBuffer op j.tag)
    | none => s.store
  let s := { s.setStore (j.handles.foldl (Store.claimBuffer j) st) with nextTag := tagAfter j.tag }
  let x := s.stream j.stream
  let s := s.setStream j.stream { x with inFlight := x.inFlight + 1, tail := j.phase.endState }
  s.setChannel j.channel { s.channel j.channel with queue := (s.channel j.channel).queue ++ [j] }

/-- Checks 3 to 7 of JOB SUBMIT (R50). -/
def submitChecks (s : State) (c : ChanIx) (n : StreamIx) (phase : Phase) (key : Quad) : List (Bool × Status) :=
  let x := s.stream n
  [(x.keyDiffers key, .keyMismatch),
   (decide (c ≠ x.home), .wrongChannel),
   (x.state == .faulted, .streamFaulted),
   (x.tail != phase.needs, .phase)]

/-- JOB SUBMIT (R50 to R53). -/
def ownJobSubmit (f : Frame) (s : State) : Answer :=
  let p := f.payload
  match channelOf (byteAt p 0), phaseOf (byteAt p 2) with
  | some c, some phase =>
    match s.openStream (byteAt p 1) with
    | none => .now .noStream [] s
    | some n =>
      let flags := byteAt p 3
      let hasExpect := flags.getLsbD 1
      let expect := if hasExpect then some (quadAt p 8) else none
      checked s (submitChecks s c n phase (quadAt p 4)) <|
      match operandsOf p with
      | none => .now .badOperands [] s
      | some ops =>
        checked s
          ((!operandsAllowed (s.stream n).profile phase hasExpect ops, .badOperands) :: bufferChecks s.store ops ++
            [(decide (8 ≤ (s.channel c).queue.length), .queueFull)]) <|
        let auto := ops.find? Operand.asksAuto
        match auto, s.store.freeHandle with
        | some _, none => .now .noHandle [] s
        | _, h? =>
          let h := if auto.isSome then h?.getD 0 else 0
          let tag := s.newTag
          let j := acceptedJob tag c n phase (flags.getLsbD 0) expect ops h
          .now .ok (numBytes tag ++ [byteOf h]) (s.acceptJob j auto).settle
  | _, _ => .now .badField [] s

/-! ### JOB ABORT (R68 to R70) -/

/-- Whether an earlier live job of the job's stream is present (R69). -/
def State.earlierLive (s : State) (j : Job) : Bool :=
  match s.streamJobs j.channel j.stream with
  | first :: _ => first.tag != j.tag
  | [] => false

/-- JOB ABORT (R68 to R70). In LOADING it becomes the held end cause, unless a LIMIT is held, and the reply waits. -/
def ownJobAbort (f : Frame) (s : State) : Answer :=
  match s.findJob (halfAt f.payload 0).toNat with
  | none => .now .noJob [] s
  | some j =>
    if (s.stream j.stream).keyDiffers (quadAt f.payload 2) then .now .keyMismatch [] s
    else
      match j.state with
      | .done | .failed | .aborted | .cancelled | .saving => .now .tooLate [] s
      | .queued =>
        if s.earlierLive j then
          .now .ok [] (s.modJob j.channel j.tag (fun j => { j with abortMark := true }))
        else .now .ok [] (s.endJob j.channel .aborted .none j).settle
      | .waiting | .running | .held => .now .ok [] (s.endJob j.channel .aborted .none j).settle
      | .loading =>
        .later (.abort j.channel)
          (s.modJob j.channel j.tag (fun j => { j with heldCause := j.heldCause.or (some .abort) }))

/-! ### CHANNEL SET and CHANNEL QUERY (R72, R74) -/

/-- CHANNEL SET (R72). -/
def ownChannelSet (f : Frame) (s : State) : Answer :=
  match channelOf (byteAt f.payload 0), modeOf (byteAt f.payload 1) with
  | some c, some m => .now .ok [] (s.setChannel c { s.channel c with mode := m })
  | _, _ => .now .badField [] s

/-- An engine number, or the filler 0FFH for no engine (R169). -/
def engineByte (e : Option EngineIx) : Byte := e.elim 0xFF (fun e => byteOf e.val)

/-- One queue entry of a CHANNEL QUERY (section 9.4.2). -/
def queueEntry (j : Job) : List Byte :=
  numBytes j.tag ++
  [byteOf j.stream.val, phaseCode j.phase, jobStateCode j.state, reasonCode (if j.state.live then .none else j.reason),
    flagsByte [j.mark, j.abortMark]]

/-- The results of a CHANNEL QUERY (section 9.4.2). -/
def State.channelResults (s : State) (c : ChanIx) : List Byte :=
  let ch := s.channel c
  let working := (s.head c).filter (fun j => j.state.working)
  [modeCode ch.mode, byteOf ch.silent] ++
  [Kind.delta, .run, .whiten, .check].map (fun k => engineByte (s.pinnedEngine c k)) ++
  [flagsByte [ch.claim, s.store.waitQueue.contains c, working.isSome, working.any (·.warned)],
    engineByte ((working.bind (·.engines)).map (·.1)), engineByte ((working.bind (·.engines)).bind (·.2))] ++
  numBytes ((working.map (·.leadFed)).getD 0) ++ numBytes ((working.map (·.dataConsumed)).getD 0) ++
  numBytes ((working.map (·.outWritten)).getD 0) ++
  [byteOf ch.queue.length] ++ ch.queue.flatMap queueEntry

/-- CHANNEL QUERY (R74). -/
def ownChannelQuery (f : Frame) (s : State) : Answer :=
  match channelOf (byteAt f.payload 0) with
  | some c => .now .ok (s.channelResults c) s
  | none => .now .badField [] s

/-! ### The meanings of the four rows -/

/-- JOB_SUBMIT. -/
def execJobSubmit (s : State) : Host.Outcome State Fault Refusal := .next (s.serve 0x30 .ordinary ownJobSubmit)

/-- JOB_ABORT. -/
def execJobAbort (s : State) : Host.Outcome State Fault Refusal := .next (s.serve 0x31 .ordinary ownJobAbort)

/-- CHANNEL_SET. -/
def execChannelSet (s : State) : Host.Outcome State Fault Refusal := .next (s.serve 0x32 .ordinary ownChannelSet)

/-- CHANNEL_QUERY. -/
def execChannelQuery (s : State) : Host.Outcome State Fault Refusal := .next (s.serve 0x33 .ordinary ownChannelQuery)

end Sys2Proof.Machine
end

