-- ==== Sys2Proof/Machine/LinkEvents.lean ====
section
/-! DEFINITION. The events of power, pins and link (chapter 8): resets and start-up, bytes and frames received, the
transmitter, the gap and retry timers, and the requests that the Host Link Controller owns: LINK OPEN, RESET and a
request of no known kind. -/

namespace Sys2Proof.Machine

/-! ### Resets and start-up (R24, R75, R97, R116, R132, R150, R168) -/

/-- The Power-on state of every block, start-up begun; the model's queue of commands is no part of it (R168). -/
def State.powerUp (s : State) : State := { State.reset with pending := s.pending }

/-- An engine after a RESETN pin reset or a RESET request (R97). -/
def Engine.afterReset (en : Engine) : Engine :=
  if en.state = .offline ∨ en.offlineDue then offlineEngine else freshEngine

/-- The six engines after a RESETN pin reset or a RESET request (R97). -/
def State.resetEngines (s : State) : State := allEngines.foldl (fun s e => s.setEngine e (s.engine e).afterReset) s

/-- The reset state of every block after a RESETN pin reset or a RESET request: the banks and the fault notice pending
flags are kept whole, OFFLINE engines and engines with offline due are OFFLINE (R24, R75, R97, R116, R132, R150, R168).
The link form stands until LSEL is sampled.
DEDUCED, log 12. -/
def State.pinReset (s : State) (stage : Stage) : State :=
  let s := s.resetEngines
  { State.reset with
    pending := s.pending
    stage := stage
    link := { resetLink with form := s.link.form }
    engines := s.engines
    reports := { freshReports with faultPending := s.reports.faultPending }
    banks := s.banks }

/-- The link form that LSEL selects (R151). -/
def formOf : PinLevel → LinkForm
  | .low => .uart
  | .high => .spi

/-- The end of start-up (R168): LSEL is sampled and the part runs; notices pending since before the reset get their
slots (R132).
DEDUCED, log 14. -/
def State.endStartUp (s : State) (lsel : PinLevel) : State :=
  if s.stage = .startUp then
    ({ s.setLink { resetLink with form := formOf lsel } with stage := .running }).settle
  else s

/-! ### The transmitter (R152, R160, R166) -/

/-- The oldest outstanding report that is ready: marked, in OPEN, and not held back behind a LINK OPEN reply (R166). -/
def State.readyReport (s : State) : Option Report :=
  if s.link.state = .opened ∧ s.link.holdReports = false then s.reports.outbox.find? (·.sendDue) else none

/-- The RESYNC frame: one byte of reason, SEQ equal to E as the frame begins (R160). -/
def resyncFrame (e : Byte) (r : ResyncReason) : Frame := { seq := e, kind := 0xA0, payload := [resyncCode r] }

/-- The free transmitter begins the first ready frame: the RESYNC notice, the oldest reply, the oldest send-due report
(R166). -/
def State.beginFrame (s : State) : State :=
  let l := s.link
  match l.sending, l.resync, l.replies with
  | some _, _, _ => s
  | none, some r, _ =>
    s.setLink { l with resync := none, sending := some { source := .resync, frame := resyncFrame l.expected r } }
  | none, none, r :: rest =>
    s.setLink { l with replies := rest, sending := some { source := .reply r.role, frame := r.frame } }
  | none, none, [] =>
    match s.readyReport with
    | some r => s.setLink { l with sending := some { source := .report r.number, frame := reportFrame r } }
    | none => s

/-- The send-due mark of one report cleared (R126).
DEDUCED, log 31. -/
def clearMark (n : Byte) (outbox : List Report) : List Report :=
  outbox.map (fun r => if r.number = n then { r with sendDue := false } else r)

/-- What the end of a frame brings (R126, R163, R166, R167). -/
def State.frameEnded (s : State) : Source → State
  | .resync => s
  | .reply .ordinary => s
  | .reply .notOpen => s
  | .reply .linkOpen => s.setLink { s.link with holdReports := false }
  | .reply .reset => s.pinReset .startUp
  | .report n => s.setReports { s.reports with outbox := clearMark n s.reports.outbox }

/-- The frame being sent has been sent in full (R166). -/
def State.endFrame (s : State) : State :=
  match s.link.sending with
  | none => s
  | some o => (s.setLink { s.link with sending := none }).frameEnded o.source

/-- ATTN is asserted while the transmitter holds a ready frame or a frame begun and not finished (R152); it is deasserted
in reset and during start-up (R168).
DEDUCED, log 13. -/
def State.attnAsserted (s : State) : Bool :=
  s.stage == .running &&
    (s.link.sending.isSome || s.link.resync.isSome || !s.link.replies.isEmpty || s.readyReport.isSome)

/-! ### The gap timer and the retry timer -/

/-- The gap timer's expiry: the partial frame is discarded without a notice (R155). -/
def State.gapExpiry (s : State) : State :=
  match s.link.receiver, s.link.gapTimer with
  | .inFrame _, some t => (s.catchUp (some t) 5).hunt
  | _, _ => s

/-- The retry timer's expiry (R128): a retry for counts 0 to 4, QUIET on the sixth expiry. A stopped timer does not
expire (R127). -/
def State.retryExpiry (s : State) : State :=
  match s.reports.retryTimer with
  | none => s
  | some t =>
    let s := s.catchUp (some t) (10 * s.reports.retryPeriod)
    if s.reports.retryCount < 5 then
      s.setReports { s.reports with
        retryCount := s.reports.retryCount + 1
        outbox := markReports true s.reports.outbox
        retryTimer := some 0 }
    else s.enterQuiet

/-! ### Requests of the Host Link Controller -/

/-- The results of a LINK OPEN (R163, R172). -/
def State.identity (s : State) : List Byte :=
  [0x54, 0x46, 0x02, 4, 8, 16, 48] ++ numBytes 512 ++ [64, 16, 4, 240, s.reports.oldest, s.reports.nextNumber]

/-- LINK OPEN as the decoder takes it (R163). -/
def ownLinkOpen (_f : Frame) (s : State) : Answer := .now .ok s.identity s

/-- RESET (R167): answered OK at once, after which the decoder takes no further frame. -/
def ownReset (_f : Frame) (s : State) : Answer := .stop s

/-- A frame whose KIND is no request kind, answered UNKNOWN-KIND (R171). -/
def State.refuseUnknown (s : State) : State :=
  match s.taken with
  | some (f, s') => if requestKinds.contains f.kind then s else s'.buildReply .ordinary f false .unknownKind []
  | none => s

/-! ### The meanings of the rows -/

/-- POWER_ON. -/
def execPowerOn (s : State) : Host.Outcome State Fault Refusal := .next s.powerUp

/-- RESETN_ASSERT. -/
def execResetnAssert (s : State) : Host.Outcome State Fault Refusal := .next (s.pinReset .held)

/-- RESETN_RELEASE. -/
def execResetnRelease (s : State) : Host.Outcome State Fault Refusal :=
  .next (if s.stage = .held then { s with stage := .startUp } else s)

/-- START_UP_END. -/
def execStartUpEnd (lsel : PinLevel) (s : State) : Host.Outcome State Fault Refusal := .next (s.endStartUp lsel)

/-- FRAME_RECEIVED: the bytes arrive one after another, the last of them completing the frame.
DESIGN CHOICE, log 7. -/
def execFrameReceived (bytes : List Byte) (s : State) : Host.Outcome State Fault Refusal :=
  .next (bytes.foldl (fun s b => s.receive (.byte b)) s)

/-- INBOUND_BYTE. -/
def execInboundByte (x : Inbound) (s : State) : Host.Outcome State Fault Refusal := .next (s.receive x)

/-- GAP_TIMER_EXPIRY. -/
def execGapTimerExpiry (s : State) : Host.Outcome State Fault Refusal := .next s.gapExpiry

/-- TRANSMIT_FRAME_BEGIN: nothing is sent in reset or during start-up (R168). -/
def execTransmitFrameBegin (s : State) : Host.Outcome State Fault Refusal :=
  .next (if s.stage = .running then s.beginFrame else s)

/-- FRAME_SENT. -/
def execFrameSent (s : State) : Host.Outcome State Fault Refusal := .next s.endFrame

/-- RETRY_TIMER_EXPIRY. -/
def execRetryTimerExpiry (s : State) : Host.Outcome State Fault Refusal := .next s.retryExpiry

/-- UNKNOWN_KIND_REQUEST. -/
def execUnknownKindRequest (s : State) : Host.Outcome State Fault Refusal := .next s.refuseUnknown

/-- LINK_OPEN. -/
def execLinkOpen (s : State) : Host.Outcome State Fault Refusal := .next (s.serve 0x01 .linkOpen ownLinkOpen)

/-- RESET. -/
def execReset (s : State) : Host.Outcome State Fault Refusal := .next (s.serve 0x03 .reset ownReset)

end Sys2Proof.Machine
end

