-- ==== Sys2Proof/Machine/ReportRequests.lean ====
section
/-! DEFINITION. The requests on the Report Unit, the stall watch and the fault banks: REPORT ACK, REPORT SET (chapter 6),
WATCH SET, FAULT READ, FAULT CLEAR and FAULT MASK (chapter 7). -/

namespace Sys2Proof.Machine

/-- How many outstanding reports there are up to number n, from the oldest (R117, R125). -/
def Reports.countThrough (r : Reports) (n : Byte) : Nat := (n - r.oldest).toNat + 1

/-- Number n is outstanding (R117). -/
def Reports.isOutstanding (r : Reports) (n : Byte) : Bool := decide (r.countThrough n ≤ r.outbox.length)

/-- Every report from the oldest through n removed; the retry count becomes 0 and the timer is restarted or stopped
(R125, R127). -/
def Reports.acknowledge (r : Reports) (link : LinkState) (n : Byte) : Reports :=
  let outbox := r.outbox.drop (r.countThrough n)
  { r with outbox := outbox, retryCount := 0, retryTimer := startedRetry link r.retryPeriod outbox }

/-- REPORT ACK (R125): the reply counts what is outstanding before the freed slots are filled.
DESIGN CHOICE, log 34 and 35. -/
def ownReportAck (f : Frame) (s : State) : Answer :=
  let n := byteAt f.payload 0
  let r := s.reports
  if r.isOutstanding n then
    let r' := r.acknowledge s.link.state n
    .now .ok [byteOf (r.countThrough n), byteOf r'.outbox.length, r'.nextNumber] (s.setReports r').settle
  else .now .badAck [] s

/-- REPORT SET (R129): the timer starts again from 0 where the three conditions then hold. -/
def ownReportSet (f : Frame) (s : State) : Answer :=
  let v := natAt f.payload 0
  if v = 1 then .now .badField [] s
  else
    let r := { s.reports with
      retryPeriod := v, retryTimer := startedRetry s.link.state v s.reports.outbox }
    .now .ok [byteOf v, byteOf r.retryCount, byteOf r.outbox.length, r.oldest, r.nextNumber] (s.setReports r)

/-- The stall watch as WATCH SET leaves it: a running timer starts again from 0 under the new values (R139). -/
def Watch.reprogrammed (w : Watch) (warn limit : Nat) : Watch :=
  match w.timer with
  | some _ => { w with warn := warn, limit := limit, timer := some 0, warnTaken := false }
  | none => { w with warn := warn, limit := limit }

/-- WATCH SET (R139). -/
def ownWatchSet (f : Frame) (s : State) : Answer :=
  let warn := (halfAt f.payload 1).toNat
  let limit := (halfAt f.payload 3).toNat
  match channelOf (byteAt f.payload 0) with
  | none => .now .badField [] s
  | some c =>
    checked s
      [(decide (60000 < warn ∨ 60000 < limit), .badField),
       (decide (warn ≠ 0 ∧ limit ≠ 0 ∧ limit ≤ warn), .badField)]
      (let w := (s.watch c).reprogrammed warn limit
       .now .ok (numBytes warn ++ numBytes limit ++ flagsByte [w.timer.isSome] :: numBytes (w.timer.getD 0))
         (s.setWatch c w))

/-- FAULT READ (R147, R172). -/
def ownFaultRead (f : Frame) (s : State) : Answer :=
  match bankOf (byteAt f.payload 0) with
  | none => .now .badField [] s
  | some b =>
    .now .ok
      (bankBlock (s.faultInfo b) ++
        [flagsByte [(s.bank b).maskCorrected, (s.bank b).maskUncorrected],
          flagsByte [s.reports.faultPending.get b]]) s

/-- FAULT CLEAR (R148). -/
def ownFaultClear (f : Frame) (s : State) : Answer :=
  match bankOf (byteAt f.payload 0) with
  | none => .now .badField [] s
  | some b => .now .ok [] (s.setBank b { s.bank b with record := none, overflow := false, corrected := 0 })

/-- FAULT MASK (R149): a mask value with any of bits 2 to 7 set is refused (R171). -/
def ownFaultMask (f : Frame) (s : State) : Answer :=
  let m := byteAt f.payload 1
  match bankOf (byteAt f.payload 0) with
  | none => .now .badField [] s
  | some b =>
    if 4 ≤ m.toNat then .now .badField [] s
    else
      .now .ok []
        (s.setBank b { s.bank b with maskCorrected := m.getLsbD 0, maskUncorrected := m.getLsbD 1 })

/-! ### The meanings of the six rows -/

/-- REPORT_ACK. -/
def execReportAck (s : State) : Host.Outcome State Fault Refusal := .next (s.serve 0x40 .ordinary ownReportAck)

/-- REPORT_SET. -/
def execReportSet (s : State) : Host.Outcome State Fault Refusal := .next (s.serve 0x41 .ordinary ownReportSet)

/-- WATCH_SET. -/
def execWatchSet (s : State) : Host.Outcome State Fault Refusal := .next (s.serve 0x48 .ordinary ownWatchSet)

/-- FAULT_READ. -/
def execFaultRead (s : State) : Host.Outcome State Fault Refusal := .next (s.serve 0x49 .ordinary ownFaultRead)

/-- FAULT_CLEAR. -/
def execFaultClear (s : State) : Host.Outcome State Fault Refusal := .next (s.serve 0x4A .ordinary ownFaultClear)

/-- FAULT_MASK. -/
def execFaultMask (s : State) : Host.Outcome State Fault Refusal := .next (s.serve 0x4B .ordinary ownFaultMask)

end Sys2Proof.Machine
end

