-- ==== Sys2Proof/Machine/Dispatch.lean ====
section
/-! DEFINITION. The dispatch of the commands, one arm per row of spec/opcode_table.json. -/

namespace Sys2Proof.Machine

/-- The effect of a command on everything but the queue. -/
def exec (i : Instr) (s : State) : Host.Outcome State Fault Refusal :=
  match i with
  | .powerOn => Sys2Proof.Machine.execPowerOn s
  | .resetnAssert => Sys2Proof.Machine.execResetnAssert s
  | .resetnRelease => Sys2Proof.Machine.execResetnRelease s
  | .startUpEnd lsel => Sys2Proof.Machine.execStartUpEnd lsel s
  | .frameReceived bytes => Sys2Proof.Machine.execFrameReceived bytes s
  | .gapTimerExpiry => Sys2Proof.Machine.execGapTimerExpiry s
  | .transmitFrameBegin => Sys2Proof.Machine.execTransmitFrameBegin s
  | .frameSent => Sys2Proof.Machine.execFrameSent s
  | .unknownKindRequest => Sys2Proof.Machine.execUnknownKindRequest s
  | .linkOpen => Sys2Proof.Machine.execLinkOpen s
  | .reset => Sys2Proof.Machine.execReset s
  | .bufAlloc => Sys2Proof.Machine.execBufAlloc s
  | .bufWrite => Sys2Proof.Machine.execBufWrite s
  | .bufRead => Sys2Proof.Machine.execBufRead s
  | .bufFree => Sys2Proof.Machine.execBufFree s
  | .bufInfo => Sys2Proof.Machine.execBufInfo s
  | .storeSet => Sys2Proof.Machine.execStoreSet s
  | .streamOpen => Sys2Proof.Machine.execStreamOpen s
  | .streamClose => Sys2Proof.Machine.execStreamClose s
  | .streamReset => Sys2Proof.Machine.execStreamReset s
  | .streamQuery => Sys2Proof.Machine.execStreamQuery s
  | .streamMove => Sys2Proof.Machine.execStreamMove s
  | .streamKey => Sys2Proof.Machine.execStreamKey s
  | .jobSubmit => Sys2Proof.Machine.execJobSubmit s
  | .jobAbort => Sys2Proof.Machine.execJobAbort s
  | .channelSet => Sys2Proof.Machine.execChannelSet s
  | .channelQuery => Sys2Proof.Machine.execChannelQuery s
  | .enginePin => Sys2Proof.Machine.execEnginePin s
  | .engineUnpin => Sys2Proof.Machine.execEngineUnpin s
  | .engineOffline => Sys2Proof.Machine.execEngineOffline s
  | .engineRestore => Sys2Proof.Machine.execEngineRestore s
  | .engineQuery => Sys2Proof.Machine.execEngineQuery s
  | .reportAck => Sys2Proof.Machine.execReportAck s
  | .reportSet => Sys2Proof.Machine.execReportSet s
  | .watchSet => Sys2Proof.Machine.execWatchSet s
  | .faultRead => Sys2Proof.Machine.execFaultRead s
  | .faultClear => Sys2Proof.Machine.execFaultClear s
  | .faultMask => Sys2Proof.Machine.execFaultMask s
  | .saveEnd e => Sys2Proof.Machine.execSaveEnd e s
  | .loadingEnd c => Sys2Proof.Machine.execLoadingEnd c s
  | .byteStep c => Sys2Proof.Machine.execByteStep c s
  | .transformWorkEnd c => Sys2Proof.Machine.execTransformWorkEnd c s
  | .savingEnd c => Sys2Proof.Machine.execSavingEnd c s
  | .engineSelfCheckFault e => Sys2Proof.Machine.execEngineSelfCheckFault e s
  | .scrubCompletion e => Sys2Proof.Machine.execScrubCompletion e s
  | .warnExpiry c => Sys2Proof.Machine.execWarnExpiry c s
  | .limitExpiry c => Sys2Proof.Machine.execLimitExpiry c s
  | .retryTimerExpiry => Sys2Proof.Machine.execRetryTimerExpiry s
  | .inboundByte x => Sys2Proof.Machine.execInboundByte x s
  | .storedWordErrorEvent block word => Sys2Proof.Machine.execStoredWordErrorEvent block word s
  | .contextCopyErrorEvent site level => Sys2Proof.Machine.execContextCopyErrorEvent site level s

end Sys2Proof.Machine
end

