-- ==== Sys2Proof/Safety.lean ====
section
/-! DEFINITION. What counts as a safe run, in the terms the statements use: the well-formedness of the buffer memory, the
accounting of blocks, the bounds of the part's lists and settings, and what it means that the Request Decoder takes a
frame and answers it. -/

namespace Sys2Proof.Machine

/-! ### A safe step -/

/-- A step is safe when it answers a next state: neither a fault nor a refusal. -/
abbrev State.stepsSafely (s : State) : Prop := ∃ t, step s = .next t

/-! ### The buffer memory in canonical form -/

/-- The buffer memory's canonical form: addresses strictly rising and below 32768, no byte 00H listed. -/
def Memory.wf (m : List Host.Cell) : Bool := sparseWf 0 32768 m

/-- The word levels' canonical form: word numbers strictly rising and below 4096, no clean word listed. -/
def Store.levelsWf (l : List (Nat × ErrLevel)) : Bool := sparseWf .clean 4096 l

/-- Both sparse lists of the buffer store are in canonical form. -/
abbrev Store.canonical (st : Store) : Prop := Memory.wf st.mem = true ∧ Store.levelsWf st.levels = true

/-! ### Blocks (R99, R100) -/

/-- No block is held twice, every held block exists, the free count and the held blocks make 512, and a FREE entry holds
none (R99, R100). -/
abbrev Store.blocksCounted (st : Store) : Prop :=
  st.heldBlocks.Nodup ∧ (∀ b ∈ st.heldBlocks, b < 512) ∧ st.freeCount + st.heldBlocks.length = 512 ∧
    ∀ b ∈ st.handles.toList, b.state = .free → b.blocks = []

/-! ### Lists of bounded length (scope file, section 2) -/

/-- Every queue of the part is within its capacity: the inbox and the reply cache hold at most 4, at most 4 NOT-OPEN
replies wait, the outbox holds at most 16 reports and each channel at most 8 jobs (R158, R159, R161, R117, R55). -/
abbrev State.withinCapacity (s : State) : Prop :=
  s.link.inbox.length ≤ 4 ∧ s.link.cache.length ≤ 4 ∧
    (s.link.replies.filter (fun r => r.role == .notOpen)).length ≤ 4 ∧ s.reports.outbox.length ≤ 16 ∧
    ∀ c, (s.channel c).queue.length ≤ 8

/-- The outbox is numbered consecutively, mod 256, up to the number before the next number (R117). -/
abbrev Reports.numbered (r : Reports) : Prop :=
  ∀ (i : Nat) (h : i < r.outbox.length), r.outbox[i].number = r.nextNumber - BitVec.ofNat 8 (r.outbox.length - i)

/-! ### Settings and counts in range -/

/-- Every setting and count is in the range its rule gives: WARN and LIMIT (R133), the reserve (R102), the retry period and
count (R117), the silent counts (R73), and the banks' counts, OVERFLOW only with VALID, no uncorrected count at bank 6
(R140). -/
abbrev State.inRange (s : State) : Prop :=
  (∀ c, (s.watch c).warn ≤ 60000 ∧ (s.watch c).limit ≤ 60000 ∧
    ((s.watch c).warn ≠ 0 → (s.watch c).limit ≠ 0 → (s.watch c).warn < (s.watch c).limit)) ∧
  s.store.reserve ≤ 128 ∧
  (s.reports.retryPeriod ≤ 255 ∧ s.reports.retryPeriod ≠ 1 ∧ s.reports.retryCount ≤ 6) ∧
  (∀ c, (s.channel c).silent ≤ 255) ∧
  ∀ b, (s.bank b).corrected ≤ 255 ∧ (s.bank b).uncorrected ≤ 255 ∧
    ((s.bank b).record = none → (s.bank b).overflow = false) ∧ (b.val = 6 → (s.bank b).uncorrected = 0)

/-! ### Requests and replies (R164, R165) -/

/-- The request kind of a request row (section 9.2). -/
def requestKind : Instr → Option Byte
  | .linkOpen => some 0x01 | .reset => some 0x03
  | .bufAlloc => some 0x10 | .bufWrite => some 0x11 | .bufRead => some 0x12 | .bufFree => some 0x13
  | .bufInfo => some 0x14 | .storeSet => some 0x15
  | .streamOpen => some 0x20 | .streamClose => some 0x21 | .streamReset => some 0x22 | .streamQuery => some 0x23
  | .streamMove => some 0x24 | .streamKey => some 0x25
  | .jobSubmit => some 0x30 | .jobAbort => some 0x31 | .channelSet => some 0x32 | .channelQuery => some 0x33
  | .enginePin => some 0x38 | .engineUnpin => some 0x39 | .engineOffline => some 0x3A | .engineRestore => some 0x3B
  | .engineQuery => some 0x3C
  | .reportAck => some 0x40 | .reportSet => some 0x41
  | .watchSet => some 0x48 | .faultRead => some 0x49 | .faultClear => some 0x4A | .faultMask => some 0x4B
  | .powerOn | .resetnAssert | .resetnRelease | .startUpEnd _ | .frameReceived _ | .gapTimerExpiry
  | .transmitFrameBegin | .frameSent | .unknownKindRequest | .saveEnd _ | .loadingEnd _ | .byteStep _
  | .transformWorkEnd _ | .savingEnd _ | .engineSelfCheckFault _ | .scrubCompletion _ | .warnExpiry _
  | .limitExpiry _ | .retryTimerExpiry | .inboundByte _ | .storedWordErrorEvent _ _ | .contextCopyErrorEvent _ _ =>
    none

/-- The decoder is idle and the oldest frame of the inbox is f. -/
abbrev State.offers (s : State) (f : Frame) : Prop := s.decoder = .idle ∧ s.link.inbox.head? = some f

/-- The decoder takes f, of this kind, and the generic checks pass (R164, R171). -/
abbrev State.takes (s : State) (kind : Byte) (f : Frame) : Prop :=
  s.offers f ∧ f.kind = kind ∧ lengthAllowed f = true ∧ reservedSet f = false

/-- The oldest inbox frame taken off the inbox. -/
def State.popped (s : State) : State := { s with link := { s.link with inbox := s.link.inbox.tail } }

/-- The reply to f: KIND 80H, the SEQ of f, its KIND and the status, then the results (R165, R172). -/
def Frame.reply (f : Frame) (role : ReplyRole) (status : Status) (results : List Byte) : Reply :=
  { frame := { seq := f.seq, kind := 0x80, payload := f.kind :: statusCode status :: results }, role := role }

/-- The oldest inbox frame f taken and answered at once: its reply is placed in the reply cache, which keeps the last four,
and at the new end of the reply list, and the decoder is idle (R164, R165). Nothing else changes. -/
def State.answered (s : State) (f : Frame) (role : ReplyRole) (status : Status) (results : List Byte) : State :=
  { s with
    decoder := .idle
    link := { s.link with
      inbox := s.link.inbox.tail
      cache := lastFour (s.link.cache ++ [f.reply role status results])
      replies := s.link.replies ++ [f.reply role status results] } }

/-- The oldest inbox frame f taken, the decoder busy with it (R164). Nothing else changes. -/
def State.holding (s : State) (f : Frame) (hold : Hold) : State :=
  { s with decoder := .busy f hold false, link := { s.link with inbox := s.link.inbox.tail } }

/-! ### Quiescence -/

/-- No head job waits for engines, no head job has ended without being dealt with or stands QUEUED, and no claim stands
that has a slot: the sequencers, the allocator and the slot arbiter have nothing to do (R56, R67, R83, R86, R122). -/
abbrev State.atRest (s : State) : Prop := (∀ c, s.headIn c .waiting = none) ∧ s.unsettled = false

/-- No claim stands that has a slot, and no head job other than j waits for engines, stands QUEUED or has ended without being
dealt with: an end of j sets nothing in motion but what follows in its own channel (R56, R67, R83, R122). -/
abbrev State.quietBut (s : State) (j : Job) : Prop :=
  (s.reports.outbox.length = 16 ∨ s.firstClaim = none) ∧
    ∀ c, s.head c = some j ∨ s.headIn c .waiting = none ∧ s.headIn c .queued = none ∧ s.undealt c = false

/-! ### Jobs, engines and buffers that agree -/

/-- A job names a buffer in some operand (R101). -/
def Job.mentions (j : Job) (h : Nat) : Bool := j.operands.any (fun op => op.handle == h)

/-- No two jobs present have one tag (R49). -/
abbrev State.tagsUnique (s : State) : Prop := (s.jobs.map (·.tag)).Nodup

/-- Tags are unique and in 1 to 65535 (R49), a queue holds at most 8 jobs (R55), each of its channel, a JOB END claim stands
only for a head that has ended (R67), and the in-flight count of a stream is the number of its live jobs, 0 where the
entry is FREE (R15). -/
abbrev State.jobsCounted (s : State) : Prop :=
  s.tagsUnique ∧ (∀ j ∈ s.jobs, 1 ≤ j.tag ∧ j.tag ≤ 65535) ∧ (1 ≤ s.nextTag ∧ s.nextTag ≤ 65535) ∧
    (∀ c, (s.channel c).queue.length ≤ 8 ∧ (∀ j ∈ (s.channel c).queue, j.channel = c) ∧
      ((s.channel c).claim = true → (s.head c).any (fun j => !j.state.live) = true)) ∧
    ∀ n, (s.stream n).inFlight = (s.liveJobs.filter (fun j => j.stream = n)).length ∧
      ((s.stream n).state = .free → (s.stream n).inFlight = 0)

/-- The use count of a buffer is the number of live jobs that name it, its locks are formed from their roles, a FREE handle
has use count 0 (R101); the AUTO buffer of a live job is PENDING and no other live job names it (R110, R52). -/
abbrev State.usesCounted (s : State) : Prop :=
  (∀ h ∈ allHandles,
    (s.store.buffer h).useCount = (s.liveJobs.filter (fun j => j.mentions h)).length ∧
      (s.store.buffer h).inputLocked = s.liveJobs.any (fun j => j.names h true) ∧
      (s.store.buffer h).outputLocked = s.liveJobs.any (fun j => j.names h false) ∧
      ((s.store.buffer h).state = .free → (s.store.buffer h).useCount = 0)) ∧
    ∀ j ∈ s.liveJobs, (∀ op ∈ j.operands, op.handle ∈ allHandles) ∧
      (j.autoHandle ≠ 0 → (s.store.buffer j.autoHandle).state = .pending ∧ j.mentions j.autoHandle = true ∧
        ∀ k ∈ s.liveJobs, k.mentions j.autoHandle = true → k.tag = j.tag)

/-- The state of the engine that works this part for a job in a working state (R77, R79). -/
def Job.engineState (j : Job) : Which → EngineState
  | .primary =>
    match j.state with
    | .loading => .loading
    | .running => .running
    | .held => .held
    | _ => .saving
  | .check =>
    match j.state with
    | .loading => .loading
    | .running => .running
    | .held => .running
    | _ => .saving

/-- The part that an engine holds is this part of this stream, as a working copy. -/
def Engine.works (en : Engine) (n : StreamIx) (w : Which) : Bool :=
  match en.part with
  | .working m v _ => decide (m = n ∧ v = w)
  | _ => false

/-- The stream and part that an engine holds, as a working or a resident copy. -/
def Engine.holds (en : Engine) : Option (StreamIx × Which) :=
  match en.part with
  | .none => none
  | .working n w _ => some (n, w)
  | .resident n w _ => some (n, w)

/-- The record of an engine without a job, by its state (R77). -/
def Engine.idleRecord (en : Engine) : Bool :=
  match en.state with
  | .available | .offline =>
    en.binding == .none && en.part == .none && en.job == none && !en.saveInProgress && !en.offlineDue
  | .scrub =>
    en.part == .none && en.job == none && !en.saveInProgress &&
      (match en.binding with
       | .dynamic _ => false
       | _ => true)
  | .bound =>
    en.job == none && !en.holdsWorking &&
      (match en.binding with
       | .pinned _ => true
       | _ => false)
  | .loading | .running | .held | .saving => true

/-- The record of an engine e that works part w for the job j of channel c (R77, R79). -/
abbrev State.worksFor (s : State) (c : ChanIx) (j : Job) (e : EngineIx) (w : Which) : Prop :=
  let en := s.engine e
  en.state = j.engineState w ∧ en.job = some j.tag ∧ (en.binding = .dynamic c ∨ en.binding = .pinned c) ∧
    engineKind e = (s.stream j.stream).profile.partKind w ∧
    (if j.state = .loading then en.holdsWorking = false ∧ (en.saveInProgress = true → en.holds ≠ some (j.stream, w))
      else en.works j.stream w = true ∧ en.saveInProgress = false)

/-- Every engine has the record of its state, one in a working state works for a working head job, and no channel has two
pins of one kind (R77). -/
abbrev State.enginesServe (s : State) : Prop :=
  ∀ e, (s.engine e).idleRecord = true ∧
    ((s.engine e).state ∈ [.loading, .running, .held, .saving] →
      ∃ c, (s.head c).any (fun j => j.state.working && j.workers.any (fun ew => ew.1 == e)) = true) ∧
    ∀ f, f ≠ e → engineKind f = engineKind e →
      ∀ c, ¬ ((s.engine e).binding = .pinned c ∧ (s.engine f).binding = .pinned c)

/-- A part that an engine holds is one of an open stream, and of the engine's kind; a CHECK stream has no secondary (R4, R5,
R8). -/
abbrev State.partsPlaced (s : State) : Prop :=
  (∀ e, ∀ nw ∈ (s.engine e).holds, (s.stream nw.1).state ≠ .free ∧ nw.2 ∈ (s.stream nw.1).profile.parts ∧
    engineKind e = (s.stream nw.1).profile.partKind nw.2) ∧
  ∀ n, (s.stream n).profile.secondary = .check → (s.stream n).profile.kind ≠ .check

/-- Only a head job waits or works, and a job has engines just while it works, one for each part of its profile, as their
records say (R5, R56, R79). -/
abbrev State.jobsServed (s : State) : Prop :=
  ∀ c, ∀ j ∈ (s.channel c).queue, (j.state = .waiting ∨ j.state.working = true → s.head c = some j) ∧
    (j.state.working = false → j.engines = none) ∧
    (j.state.working = true → j.workers.map (·.2) = (s.stream j.stream).profile.parts ∧
      ∀ ew ∈ j.workers, s.worksFor c j ew.1 ew.2)

/-- Engines, jobs and streams agree (R5, R8, R56, R77, R79), and a finding that is open (log 43) is one of an engine in
SCRUB or OFFLINE. -/
abbrev State.enginesAgree (s : State) : Prop :=
  s.enginesServe ∧ s.partsPlaced ∧ s.jobsServed ∧
    ∀ l ∈ s.late, (s.engine l.engine).state = .scrub ∨ (s.engine l.engine).state = .offline

/-- The block wait queue holds just the channels whose head job is HELD, each once, so at most 4; a HELD job writes an AUTO
buffer; and while a channel waits the free count is 0 (R112). -/
abbrev State.waitersHeld (s : State) : Prop :=
  s.store.waitQueue.Nodup ∧ s.store.waitQueue.length ≤ 4 ∧ (s.store.waitQueue ≠ [] → s.store.freeCount = 0) ∧
    ∀ c, (c ∈ s.store.waitQueue ↔ (s.headIn c .held).isSome = true) ∧
      ∀ j ∈ s.headIn c .held, j.autoHandle ≠ 0

/-- Jobs, buffers, engines and wait queue agree: what every run from Power-on keeps. -/
abbrev State.coherent (s : State) : Prop := s.jobsCounted ∧ s.usesCounted ∧ s.enginesAgree ∧ s.waitersHeld

/-! ### Replies built later -/

/-- The reply to a request f taken earlier is built now: cached, queued, and the decoder is idle (R164, R165). -/
def State.built (s : State) (f : Frame) (status : Status) (results : List Byte) : State :=
  { s with
    decoder := .idle
    link := { s.link with
      cache := lastFour (s.link.cache ++ [f.reply .ordinary status results])
      replies := s.link.replies ++ [f.reply .ordinary status results] } }

/-- The held request f comes to its end: its reply is built, or discarded where a LINK OPEN came meanwhile (R162, R164). -/
def State.concluded (s : State) (f : Frame) (discard : Bool) (status : Status) : State :=
  if discard then { s with decoder := .idle } else s.built f status []

/-- The held request f back at the front of the inbox, the decoder idle: taken now, it is taken against s (R89, R164). -/
def State.requeued (s : State) (f : Frame) : State :=
  { s with decoder := .idle, link := { s.link with inbox := f :: s.link.inbox } }

/-- f is a request of the row i that passes the generic checks, of a kind that a swap save or a SAVING holds (R23, R89). -/
abbrev Frame.holdable (f : Frame) (i : Instr) : Prop :=
  requestKind i = some f.kind ∧ f.kind ∈ [0x21, 0x22, 0x23, 0x24] ∧ lengthAllowed f = true ∧ reservedSet f = false

/-! ### Steps of a working head job -/

/-- t has, in place of the head job of channel c, the record j', and is otherwise s in every channel. -/
abbrev State.headBecomes (s t : State) (c : ChanIx) (j' : Job) : Prop :=
  t.channel c = { s.channel c with queue := j' :: (s.channel c).queue.tail } ∧ ∀ d, d ≠ c → t.channel d = s.channel d

/-- A progress event of channel c: its running timer starts again from 0 (R134, R135). -/
abbrev State.progressed (s t : State) (c : ChanIx) : Prop :=
  t.watch c = { s.watch c with timer := (s.watch c).timer.map (fun _ => 0)
                               warnTaken := (s.watch c).warnTaken && (s.watch c).timer.isNone } ∧
    ∀ d, d ≠ c → t.watch d = s.watch d

/-- An engine after a byte of this flow has passed: the secondary CHECK engine of the job is fed it where the profile taps
that flow (R26, R40, R45). -/
def State.tapped (s : State) (j : Job) (flow : Tap) (b : Byte) (g : EngineIx) : Engine :=
  let p := (s.stream j.stream).profile
  match j.engines, (s.engine g).part with
  | some (_, some k), .working n w (.check remainder count) =>
    if k = g ∧ p.secondary = .check ∧ p.tap = flow then
      { s.engine g with part := .working n w (.check (crcByte p.variant remainder b) (count + 1)) }
    else s.engine g
  | _, _ => s.engine g

/-- The next byte that the job j writes to OUT is x, with `rest` due behind it: a due byte, or where everything is fed and
written the first byte of the primary's finalize step in a final phase (R26). j' is j with that step noted. -/
abbrev State.nextOut (s : State) (j j' : Job) (x : Byte) (rest : List Byte) : Prop :=
  j.due = x :: rest ∧ j' = j ∨
    j.due = [] ∧ j.nextLead = none ∧ j.nextData = none ∧ (j.phase = .whole ∨ j.phase = .last) ∧ j.finalized = false ∧
      j' = { j with finalized := true, inHand := none } ∧
      ∃ e k n w v, j.engines = some (e, k) ∧ (s.engine e).part = .working n w v ∧
        finalizeBytes (s.stream j.stream).profile v = x :: rest

/-- The bytes that an OUT takes: an explicit OUT's length, an AUTO OUT's maximum (R43, R44). -/
def Job.outRoom (j : Job) (op : Operand) : Nat := if j.autoHandle ≠ 0 ∧ op.length = 0 then 4096 else op.length

/-- The record of a job that has written one more byte to OUT (R28, R31). -/
def Job.wrote (j : Job) (p : Profile) (rest : List Byte) : Job :=
  { j with
    outWritten := j.outWritten + 1, due := rest, inHand := if rest = [] then none else j.inHand
    oddTail := j.oddTail || (j.finalized && p.kind == .delta) }

/-- Engine g after the job j has written the byte x to OUT, with `rest` due behind it: a check part that taps the output is
fed x, and with the last byte due the primary's working copy becomes what the DATA byte in hand leaves, or after the
finalize step the initial value (R26, R29 to R31, R33 to R35, R37). -/
def State.wroteOut (s : State) (j : Job) (x : Byte) (rest : List Byte) (g : EngineIx) : Engine :=
  let p := (s.stream j.stream).profile
  let en := s.tapped j .output x g
  match j.engines, en.part with
  | some (e, _), .working n w v =>
    let stepped :=
      match j.inHand with
      | some b => (consumeByte p v b).1
      | none => initialPart p .primary
    if e = g ∧ rest = [] then { en with part := .working n w stepped } else en
  | _, _ => en

/-! ### Released blocks (R112) -/

/-- The head job of channel c is HELD for a block: its byte is due at the end of the blocks of its PENDING AUTO buffer (R44,
R111). -/
abbrev State.awaitsBlock (s : State) (c : ChanIx) : Prop :=
  ∃ j ∈ s.headIn c .held, ∃ op ∈ j.outOperand,
    j.due ≠ [] ∧ op.handle = j.autoHandle ∧ op.offset = 0 ∧ (s.store.buffer j.autoHandle).state = .pending ∧
      j.outWritten = 64 * (s.store.buffer j.autoHandle).blocks.length

/-- t is s after the block blk was given to the HELD head job j of channel c, whose byte x was due (R112): the channel leaves
the head of the wait queue, the block joins the AUTO buffer, x first and the rest 00H and clean, job and primary engine
return to RUNNING, a tapped check is fed x, the last byte due steps the primary's working copy, a progress event; nothing
else changes. -/
abbrev State.resumes (s t : State) (blk : Nat) (c : ChanIx) (j : Job) (x : Byte) (due : List Byte) : Prop :=
  let b := s.store.buffer j.autoHandle
  s.headBecomes t c (Job.wrote { j with state := .running } (s.stream j.stream).profile due) ∧
    (∀ g, t.engine g =
      if j.engines.map (·.1) = some g then { s.wroteOut j x due g with state := .running }
      else s.wroteOut j x due g) ∧
    (∀ h, t.store.buffer h =
      if h = j.autoHandle then { b with blocks := b.blocks ++ [blk], size := j.outWritten + 1 }
      else s.store.buffer h) ∧
    (∀ a, t.store.byteAt a = if a = 64 * blk then x else if a / 64 = blk then 0 else s.store.byteAt a) ∧
    (∀ w, t.store.levelAt w = if w / 8 = blk then .clean else s.store.levelAt w) ∧
    t.store = { s.store with
      mem := t.store.mem, levels := t.store.levels, handles := t.store.handles
      waitQueue := s.store.waitQueue.tail } ∧
    s.progressed t c ∧
    t = { s with channels := t.channels, engines := t.engines, store := t.store, watches := t.watches }

/-- t is s after one released block was dealt with: given to the channel at the head of the wait queue, or with no channel
waiting rejoined to the free set (R112). -/
def State.handsOff (s t : State) (blk : Nat) : Prop :=
  match s.store.waitQueue with
  | [] => t = s.setStore { s.store with freeCount := s.store.freeCount + 1 }
  | c :: _ => ∃ j x due, s.headIn c .held = some j ∧ j.due = x :: due ∧ s.resumes t blk c j x due

/-- t is s after these blocks were released one after another, in the order of the list (R112). -/
def State.releases : List Nat → State → State → Prop
  | [], s, t => t = s
  | blk :: rest, s, t => ∃ u : State, s.handsOff u blk ∧ u.releases rest t

/-! ### The end of a job -/

/-- An ended job: its end state and reason; its engines have left, and nothing is due (R62). ODD-TAIL stays as it stands, which
is the model's choice for a job cut short after its finalize carry byte was written (R31, R47).
DEDUCED, log 38; DESIGN CHOICE, log 48. -/
def Job.endedAs (j : Job) (st : JobState) (reason : Reason) : Job :=
  { j with state := st, reason := reason, engines := none, due := [], inHand := none, wordsRead := [] }

/-- The live jobs of the stream of j in the queue of channel c, other than j. -/
def State.behind (s : State) (c : ChanIx) (j : Job) : List Job :=
  (s.channel c).queue.filter (fun q => q.tag != j.tag && decide (q.stream = j.stream) && q.state.live)

/-- The jobs ended together with j at an end otherwise than DONE: j and those the cascade cancels (R65). -/
def State.fallen (s : State) (c : ChanIx) (j : Job) : List Job := j :: s.behind c j

/-- The reason of a cascade's cancellations (R65). -/
def State.fallReason (s : State) (j : Job) : Reason :=
  if (s.stream j.stream).state = .faulted then .streamFaulted else .predecessor

/-- The buffers of ended jobs released (R62, R101, R114): use counts lowered, locks formed from the jobs that live on, the
AUTO buffer of a job ended DONE (handle `kept`) kept for the host, the handle of any other ended job's FREE. -/
abbrev State.letGo (s t : State) (ended : List Job) (kept : Nat) : Prop :=
  ∀ h, t.store.buffer h =
    if h ≠ kept ∧ h ≠ 0 ∧ ended.any (fun q => q.autoHandle == h) = true then Machine.freeBuffer
    else
      let b := s.store.buffer h
      let naming := (ended.filter (fun q => q.mentions h)).length
      let released := if naming = 0 then b else
        { b with
          useCount := b.useCount - naming
          inputLocked := t.liveJobs.any (fun q => q.names h true)
          outputLocked := t.liveJobs.any (fun q => q.names h false) }
      if h = kept ∧ h ≠ 0 then { released with state := .allocated, maximum := 0, ownerTag := 0 } else released

/-- The Report Unit after the end of j: where j is the head of channel c its pending watch notice is dropped (R62). -/
def State.noticeDropped (s : State) (c : ChanIx) (j : Job) : Reports :=
  if s.head c = some j then { s.reports with watchPending := s.reports.watchPending.set c none } else s.reports

/-- The stall watch and the wait queue after the end of j: where j is the head of channel c, timer and clock stop and the
channel leaves the wait queue (R62, R113, R134). -/
abbrev State.watchEnds (s t : State) (c : ChanIx) (j : Job) : Prop :=
  t.watch c = (if s.head c = some j then { s.watch c with timer := none, warnTaken := false, clock := none }
    else s.watch c) ∧
  (∀ d, d ≠ c → t.watch d = s.watch d) ∧
  t.store.waitQueue =
    (if s.head c = some j then s.store.waitQueue.filter (· ≠ c) else s.store.waitQueue)

/-- An engine after a job that ended otherwise than DONE: OFFLINE where offline is due, else SCRUB, a pin kept (R80). -/
def Engine.cutShort (en : Engine) : Engine :=
  { state := if en.offlineDue then .offline else .scrub
    binding :=
      match en.binding with
      | .pinned c => if en.offlineDue then .none else .pinned c
      | _ => .none
    part := .none, job := none, saveInProgress := false, offlineDue := false }

/-- The blocks of the AUTO buffers of ended jobs, in the order in which they are released (R112, R114). -/
def State.freedBlocks (s : State) (ended : List Job) : List Nat :=
  ended.flatMap (fun q => (s.store.buffer q.autoHandle).blocks)

/-- t is s after the job j of channel c ended as the record j', otherwise than DONE, its claim not granted yet, the blocks of
freed AUTO buffers not yet dealt with: the effects of R62 and R80, the cascade of R65, the tail state of R16, where j is
the head the claim of R67, and nothing else. The findings that stay open are the model's (log 43). -/
abbrev State.falls (s t : State) (c : ChanIx) (j j' : Job) : Prop :=
  t.channel c = { s.channel c with
    queue := (s.channel c).queue.map (fun q =>
      if q.tag = j.tag then j'
      else if (s.behind c j).contains q then q.endedAs .cancelled (s.fallReason j) else q)
    claim := (s.channel c).claim || decide (s.head c = some j) } ∧
  (∀ d, d ≠ c → t.channel d = s.channel d) ∧ s.watchEnds t c j ∧
  t.stream j.stream = { s.stream j.stream with
    inFlight := (s.stream j.stream).inFlight - (s.fallen c j).length, tail := (s.stream j.stream).state } ∧
  (∀ m, m ≠ j.stream → t.stream m = s.stream m) ∧
  (∀ e, t.engine e = if e ∈ j.workers.map (·.1) then (s.engine e).cutShort else s.engine e) ∧
  s.letGo t (s.fallen c j) 0 ∧
  t.store = { s.store with handles := t.store.handles, waitQueue := t.store.waitQueue } ∧
  t = { s with
    channels := t.channels, watches := t.watches, streams := t.streams, engines := t.engines, store := t.store
    reports := s.noticeDropped c j, late := t.late }

/-- t is s after the job j of channel c ended as the record j', otherwise than DONE, its claim not granted yet: `State.falls`,
and the blocks of the freed AUTO buffers go to the channels that wait, or to the free set (R112, R113, R114). -/
def State.cutTo (s t : State) (c : ChanIx) (j j' : Job) : Prop :=
  ∃ u : State, s.falls u c j j' ∧ u.releases (s.freedBlocks (s.fallen c j)) t

/-- j is a live job of channel c with no earlier live job of its stream, its end sets nothing in motion but the hand-off of
the blocks it frees and what follows in its own channel, and these blocks, with those of any job behind it, meet only
channels that wait for a block: what `State.cutTo` speaks of, `State.follows` after it. -/
abbrev State.endable (s : State) (c : ChanIx) (j : Job) : Prop :=
  s.coherent ∧ (s.streamJobs c j.stream).head? = some j ∧ s.quietBut j ∧
    (s.freedBlocks ((s.channel c).queue.filter (·.state.live)) = [] ∨
      s.store.blocksCounted ∧ ∀ d ∈ s.store.waitQueue, d = c ∧ s.head c = some j ∨ s.awaitsBlock d)

/-- The same with the outbox full: the claim of an ended head stands, and nothing follows in its channel. -/
abbrev State.cuttable (s : State) (c : ChanIx) (j : Job) : Prop :=
  s.coherent ∧ (s.streamJobs c j.stream).head? = some j ∧ s.quietBut j ∧ s.reports.outbox.length = 16 ∧
    (s.freedBlocks (s.fallen c j) = [] ∨
      s.store.blocksCounted ∧ ∀ d ∈ s.store.waitQueue, d = c ∧ s.head c = some j ∨ s.awaitsBlock d)

/-- An engine after a job that ended DONE (R80, R12): OFFLINE where offline is due, a dynamic one in SCRUB, a pinned one
BOUND with its working copy resident. -/
def Engine.finished (en : Engine) : Engine :=
  let idle (st : EngineState) (b : Binding) (p : Part) : Engine :=
    { state := st, binding := b, part := p, job := none, saveInProgress := false, offlineDue := false }
  if en.offlineDue then idle .offline .none .none
  else
    match en.binding, en.part with
    | .pinned c, .working n w v => idle .bound (.pinned c) (.resident n w { value := v, level := .clean })
    | .pinned c, _ => idle .bound (.pinned c) .none
    | _, _ => idle .scrub .none .none

/-- A table copy after a job that ended DONE (R12, R80): a whole write of the working copy of an engine that is dynamic or
has its offline due, else as it was. -/
def State.copyAfter (s : State) (j : Job) (w : Which) : Copy :=
  match j.workers.find? (fun ew => ew.2 == w) with
  | none => (s.stream j.stream).copy w
  | some (e, _) =>
    match (s.engine e).part, (s.engine e).binding with
    | .working _ _ v, .pinned _ =>
      if (s.engine e).offlineDue then { value := v, level := .clean } else (s.stream j.stream).copy w
    | .working _ _ v, _ => { value := v, level := .clean }
    | _, _ => (s.stream j.stream).copy w

/-- The QUEUED job whose abort mark the DONE end of j releases: the next live job of the stream, where it is marked (R69). -/
def State.released (s : State) (c : ChanIx) (j : Job) : Option Job :=
  (s.behind c j).head?.filter (fun m => decide (m.state = .queued) && m.abortMark)

/-- The jobs ended together with j at its DONE end: j, and where an abort mark is released all behind it (R65, R69). -/
def State.settled (s : State) (c : ChanIx) (j : Job) : List Job :=
  if (s.released c j).isSome then s.fallen c j else [j]

/-- The queue of channel c after the DONE end of its head j: j as the record j', the released job ABORTED, and those behind
it CANCELLED PREDECESSOR (R65, R69). -/
def State.queueAfter (s : State) (c : ChanIx) (j j' : Job) : List Job :=
  (s.channel c).queue.map (fun q =>
    if q.tag = j.tag then j'
    else if s.released c j = some q then q.endedAs .aborted .none
    else if (s.released c j).isSome && (s.behind c j).contains q then q.endedAs .cancelled .predecessor
    else q)

/-- t is s after the head job j of channel c ended DONE as the record j', its claim not granted yet, nor the next entry dealt
with: the record state, totals and counts of R16, the contexts of R12, the engines of R80, the buffers of R114, the abort mark of R69. A silent job is
removed and counted, any other claims a slot (R67, R73); nothing else changes. -/
abbrev State.doneTo (s t : State) (c : ChanIx) (j j' : Job) : Prop :=
  let x := s.stream j.stream
  let silent := (s.channel c).mode = .marked ∧ j.mark = false ∧ j'.verify ≠ .mismatch
  t.channel c = (if silent then
      { s.channel c with
        queue := (s.queueAfter c j j').tail, silent := min ((s.channel c).silent + 1) 255 }
    else { s.channel c with queue := s.queueAfter c j j', claim := true }) ∧
  (∀ d, d ≠ c → t.channel d = s.channel d) ∧ s.watchEnds t c j ∧
  t.stream j.stream = { x with
    state := j.phase.endState
    tail := if (s.released c j).isSome then j.phase.endState
      else ((s.behind c j).getLast?.map (fun q => q.phase.endState)).getD j.phase.endState
    inFlight := x.inFlight - (s.settled c j).length, segments := x.segments + 1
    bytesIn := x.bytesIn + BitVec.ofNat 32 j.dataConsumed, bytesOut := x.bytesOut + BitVec.ofNat 32 j.outWritten
    primaryCopy := s.copyAfter j .primary, checkCopy := s.copyAfter j .check } ∧
  (∀ m, m ≠ j.stream → t.stream m = s.stream m) ∧
  (∀ e, t.engine e = if e ∈ j.workers.map (·.1) then (s.engine e).finished else s.engine e) ∧
  s.letGo t (s.settled c j) j.autoHandle ∧
  t.store = { s.store with
    handles := t.store.handles, waitQueue := t.store.waitQueue
    freeCount := s.store.freeCount +
      (s.freedBlocks ((s.settled c j).filter (fun q => q.autoHandle != j.autoHandle))).length } ∧
  t = { s with
    channels := t.channels, watches := t.watches, streams := t.streams, engines := t.engines, store := t.store
    reports := s.noticeDropped c j }

/-- No block of an AUTO buffer of a live job behind the head of channel c, which has not run, meets a waiting channel. -/
abbrev State.freesNone (s : State) (c : ChanIx) : Prop :=
  s.freedBlocks ((s.channel c).queue.tail.filter (·.state.live)) = [] ∨ s.store.waitQueue = []

/-- j is the working head of channel c on a stream in the record state that its phase needs; its DONE end sets nothing in
motion but what follows in its own channel. What `State.doneTo` speaks of, `State.follows` after it. -/
abbrev State.finishable (s : State) (c : ChanIx) (j : Job) : Prop :=
  s.coherent ∧ s.head c = some j ∧ s.quietBut j ∧ (s.stream j.stream).state = j.phase.needs ∧
    (s.channel c).claim = false ∧ s.freesNone c

/-! ### The acceptance of a job (R49 to R53) -/

/-- The operand list and expect are allowed for a stream of this profile and this phase (R51). -/
abbrev Profile.permits (p : Profile) (phase : Phase) (expect : Bool) (ops : List Operand) : Prop :=
  let hasCheck := p.kind = .check ∨ p.secondary = .check
  let final := phase = .whole ∨ phase = .last
  let count (r : Role) := (ops.filter (fun op => decide (op.role = r))).length
  count .lead ≤ 1 ∧ (count .lead = 1 → hasCheck) ∧ count .data ≤ 4 ∧
    (p.kind ≠ .check → count .out = 1) ∧ (p.kind = .check → count .out = 0) ∧
    count .checkOut ≤ 1 ∧ (count .checkOut = 1 → hasCheck ∧ final) ∧
    (∀ op ∈ ops, op.role = .checkOut → op.length = if p.variant = .crc16 then 2 else 4) ∧
    (∀ op ∈ ops, op.handle = 0xFF → op.role = .out ∧ op.offset = 0) ∧ (∀ op ∈ ops, op.length ≤ 4096) ∧
    (expect = true → hasCheck ∧ final)

/-- Check 11 of JOB SUBMIT (R52): no buffer is named both as input and as output, and where OUT and CHECK-OUT name one buffer
their ranges share no byte. -/
abbrev rangesApart (ops : List Operand) : Prop :=
  ∀ a ∈ ops, ∀ b ∈ ops, a.handle = b.handle →
    ((a.role = .lead ∨ a.role = .data) → b.role ≠ .out ∧ b.role ≠ .checkOut) ∧
    (a.role = .out → b.role = .checkOut → a.length = 0 ∨ b.length = 0 ∨
      a.offset + a.length ≤ b.offset ∨ b.offset + b.length ≤ a.offset)

/-- An operand that asks for an AUTO buffer: OUT with handle 0FFH (R51). -/
abbrev Operand.auto (op : Operand) : Prop := op.role = .out ∧ op.handle = 0xFF

/-- The decoder takes the JOB SUBMIT f for channel c, stream n, this phase and these operands, every check of R50 passes, the
next tag is free (R49), and a is the lowest FREE handle where the OUT is AUTO, else 0 (R110). -/
abbrev State.submits (s : State) (f : Frame) (c : ChanIx) (n : StreamIx) (phase : Phase) (ops : List Operand) (a : Nat) :
    Prop :=
  let p := f.payload
  let x := s.stream n
  let named := ops.filter (fun op => ¬ op.auto)
  s.takes 0x30 f ∧ natAt p 0 = c.val ∧ natAt p 1 = n.val ∧ phaseCode phase = byteAt p 2 ∧ operandsOf p = some ops ∧
    x.state ≠ .free ∧ (x.key = none ∨ x.key = some (quadAt p 4)) ∧ c = x.home ∧ x.state ≠ .faulted ∧
    x.tail = phase.needs ∧ x.profile.permits phase ((byteAt p 3).getLsbD 1) ops ∧
    (∀ op ∈ named, (s.store.buffer op.handle).state = .allocated ∧
      op.offset + op.length ≤ (s.store.buffer op.handle).size ∧
      (if op.role = .lead ∨ op.role = .data then (s.store.buffer op.handle).outputLocked = false
        else (s.store.buffer op.handle).useCount = 0)) ∧
    rangesApart named ∧ (s.channel c).queue.length < 8 ∧ (∀ j ∈ s.jobs, j.tag ≠ s.nextTag) ∧
    ((∀ op ∈ ops, ¬ op.auto) ∧ a = 0 ∨
      (∃ op ∈ ops, op.auto) ∧ 1 ≤ a ∧ a ≤ 48 ∧ (s.store.buffer a).state = .free ∧
        ∀ g < a, 1 ≤ g → (s.store.buffer g).state ≠ .free)

/-- The record of the job that the JOB SUBMIT f makes (R48, R53, R174), an AUTO OUT at handle a. -/
def State.submitted (s : State) (f : Frame) (c : ChanIx) (n : StreamIx) (phase : Phase) (ops : List Operand) (a : Nat) :
    Job :=
  { tag := s.nextTag, channel := c, stream := n, phase := phase, mark := (byteAt f.payload 3).getLsbD 0
    expect := if (byteAt f.payload 3).getLsbD 1 then some (quadAt f.payload 8) else none
    operands := ops.map (fun op => if op.auto then { op with handle := a } else op)
    state := .queued, reason := .none, abortMark := false, heldCause := none, engines := none
    leadFed := 0, dataConsumed := 0, outWritten := 0, oddTail := false, warned := false, streamFaulted := false
    checkValue := none, verify := .none, autoHandle := a, due := [], inHand := none, finalized := false
    wordsRead := [] }

/-- u is s after the acceptance of the job j, its operands as submitted `ops` (R49, R53, R101, R110): the next tag, the
stream's tail state and in-flight count, the holds and locks of the named buffers, the AUTO buffer, and j at the tail of
its channel's queue. -/
abbrev State.accepts (s u : State) (j : Job) (ops : List Operand) : Prop :=
  let x := s.stream j.stream
  let named := ops.filter (fun op => ¬ op.auto)
  let maximum := ((ops.find? (fun op => op.auto)).map (fun op => if op.length = 0 then 4096 else op.length)).getD 0
  u.nextTag = (if s.nextTag = 65535 then 1 else s.nextTag + 1) ∧
    u.stream j.stream = { x with inFlight := x.inFlight + 1, tail := j.phase.endState } ∧
    (∀ m, m ≠ j.stream → u.stream m = s.stream m) ∧ (∀ d, d ≠ j.channel → u.channel d = s.channel d) ∧
    u.channel j.channel = { s.channel j.channel with queue := (s.channel j.channel).queue ++ [j] } ∧
    (∀ h, u.store.buffer h =
      let b := s.store.buffer h
      if j.autoHandle ≠ 0 ∧ h = j.autoHandle then
        { state := .pending, origin := .auto, size := 0, blocks := [], maximum := maximum, ownerTag := s.nextTag
          useCount := 1, inputLocked := false, outputLocked := true }
      else if named.any (fun op => op.handle == h) then
        { b with
          useCount := b.useCount + 1
          inputLocked := b.inputLocked ||
            named.any (fun op => op.handle == h && decide (op.role = .lead ∨ op.role = .data))
          outputLocked := b.outputLocked ||
            named.any (fun op => op.handle == h && decide (op.role = .out ∨ op.role = .checkOut)) }
      else b) ∧
    u.store = { s.store with handles := u.store.handles } ∧
    u = { s with nextTag := u.nextTag, streams := u.streams, channels := u.channels, store := u.store }

/-! ### Engines for a job (R58, R79, R82 to R86) -/

/-- Engine e can work a part of this kind for channel c now: it is the channel's pin of that kind, BOUND with no save in
progress, or the channel has no such pin and e is the lowest-numbered AVAILABLE engine of the kind (R82, R84). -/
abbrev State.supplies (s : State) (c : ChanIx) (kind : Kind) (e : EngineIx) : Prop :=
  engineKind e = kind ∧
    ((s.engine e).binding = .pinned c ∧ (s.engine e).state = .bound ∧ (s.engine e).saveInProgress = false ∨
      (∀ g, engineKind g = kind → (s.engine g).binding ≠ .pinned c) ∧ (s.engine e).state = .available ∧
        ∀ g, g < e → engineKind g = kind → (s.engine g).state ≠ .available)

/-- Every engine of the kind is OFFLINE (R86). -/
abbrev State.outOfService (s : State) (kind : Kind) : Prop := ∀ e, engineKind e = kind → (s.engine e).state = .offline

/-- The record of engine g once it has entered LOADING with part w for the job j of channel c: a granted engine is bound
DYNAMIC, and one that holds a part other than that begins its save (R79, R84, R89). That the record keeps the resident copy
of the part to be loaded is the model's choice for WHOLE and FIRST (log 46). -/
def State.startedEngine (s : State) (c : ChanIx) (j : Job) (g : EngineIx) (w : Which) : Engine :=
  let en := s.engine g
  { en with
    state := .loading, job := some j.tag
    binding := if en.state = .available then .dynamic c else en.binding
    saveInProgress := decide (en.holds ≠ none ∧ en.holds ≠ some (j.stream, w)) }

/-- The table copy of part w once engine g has entered LOADING with it for the job j: the checkpoint (R8, R11). For WHOLE and
FIRST it is the initial value, for MIDDLE or LAST with the part resident on g the resident copy; that it is written as
LOADING begins, and unread, with the error that stands in that copy, is the model's choice (log 18). -/
def State.checkpointCopy (s : State) (j : Job) (g : EngineIx) (w : Which) : Copy :=
  if j.phase = .whole ∨ j.phase = .first then
    { value := initialPart (s.stream j.stream).profile w, level := .clean }
  else
    match (s.engine g).part with
    | .resident n v k =>
      if n = j.stream ∧ v = w then k else (s.stream j.stream).copy w
    | _ => (s.stream j.stream).copy w

/-- t is s after the head job j of channel c entered LOADING with the engine e for its primary part and k for its check part:
engines, checkpoints, progress timer and job clock start, and the grant pointer moves past the channel where an engine
was granted (R11, R79, R84, R85, R134). -/
abbrev State.starts (s t : State) (c : ChanIx) (j : Job) (e : EngineIx) (k : Option EngineIx) : Prop :=
  s.headBecomes t c { j with state := .loading, engines := some (e, k) } ∧
    (∀ g, t.engine g =
      if g = e then s.startedEngine c j g .primary
      else if k = some g then s.startedEngine c j g .check else s.engine g) ∧
    t.stream j.stream = { s.stream j.stream with
      primaryCopy := s.checkpointCopy j e .primary
      checkCopy := (k.map (fun g => s.checkpointCopy j g .check)).getD (s.stream j.stream).checkCopy } ∧
    (∀ m, m ≠ j.stream → t.stream m = s.stream m) ∧
    t.grantPtr = (if (s.engine e).state = .available ∨ ∃ g, k = some g ∧ (s.engine g).state = .available then c + 1
      else s.grantPtr) ∧
    t.watch c = { s.watch c with timer := some 0, warnTaken := false, clock := some 0 } ∧
    (∀ d, d ≠ c → t.watch d = s.watch d) ∧
    t = { s with
      channels := t.channels, engines := t.engines, streams := t.streams, grantPtr := t.grantPtr
      watches := t.watches }

/-- The engines e, and k for a secondary CHECK, supply every kind that the WAITING head job j of channel c needs (R82). -/
abbrev State.supplied (s : State) (c : ChanIx) (j : Job) (e : EngineIx) (k : Option EngineIx) : Prop :=
  let p := (s.stream j.stream).profile
  s.headIn c .waiting = some j ∧ s.supplies c p.kind e ∧
    (p.secondary = .none ∧ k = none ∨ p.secondary = .check ∧ ∃ g, k = some g ∧ s.supplies c .check g)

/-- Channel c's turn in an allocation attempt: where its WAITING head job is supplied, it starts with pins alone in the turn
of covered channels (R85), or by a grant in the walk (R84); else nothing changes. -/
abbrev State.takesTurn (s t : State) (c : ChanIx) (walk : Bool) : Prop :=
  let granted (e : EngineIx) (k : Option EngineIx) : Prop :=
    (s.engine e).state = .available ∨ ∃ g, k = some g ∧ (s.engine g).state = .available
  (∀ j e k, s.supplied c j e k → (granted e k ↔ walk = true) → s.starts t c j e k) ∧
    ((∀ j e k, s.supplied c j e k → ¬ (granted e k ↔ walk = true)) → t = s)

/-- t is s after these turns, one after another. -/
def State.walks : List (ChanIx × Bool) → State → State → Prop
  | [], s, t => t = s
  | (c, walk) :: rest, s, t => ∃ u : State, s.takesTurn u c walk ∧ u.walks rest t

/-- t is s after one allocation attempt (R83 to R85): the covered channels, then the walk of the four channels from the grant
pointer. The covered channels take only their own pins, so that their place before the walk decides nothing. -/
def State.attempts (s t : State) : Prop :=
  s.walks (allChannels.map (·, false) ++ (channelsFrom s.grantPtr).map (·, true)) t

/-- No WAITING head job needs a kind of which every engine is OFFLINE: the NO-ENGINE tests end none (R86). -/
abbrev State.served (s : State) : Prop :=
  ∀ c, ∀ j ∈ s.headIn c .waiting, ¬ s.outOfService (s.stream j.stream).profile.kind ∧
    ((s.stream j.stream).profile.secondary = .check → ¬ s.outOfService .check)

/-- Jobs, engines and streams agree, or no job waits for engines: what an allocation attempt asks of a state. -/
abbrev State.allocatable (s : State) : Prop := s.coherent ∨ ∀ c, s.headIn c .waiting = none

/-! ### What follows at once in a channel (R56, R67, R118, R122) -/

/-- An ended job that is silent in this report mode: MARKED, DONE, unmarked and without MISMATCH (R67). -/
abbrev Job.quiet (j : Job) (mode : Mode) : Prop :=
  mode = .marked ∧ j.state = .done ∧ j.mark = false ∧ j.verify ≠ .mismatch

/-- t is s after the head of channel c was dealt with, at most n entries of its queue (R56, R67). A QUEUED head enters
WAITING; where a kind that it needs is wholly OFFLINE it ends FAILED NO-ENGINE (R86), else the allocation attempt follows
(R83). An ended head is removed silently, the silent count raised, and the next entry is dealt with, or it claims an
outbox slot; a claim that stands stays. Any other head, and no head, changes nothing. -/
def State.headOn (c : ChanIx) : Nat → State → State → Prop
  | 0, s, t => t = s
  | n + 1, s, t =>
    let ch := s.channel c
    match s.head c with
    | none => t = s
    | some j =>
      if j.state = .queued then
        let p := (s.stream j.stream).profile
        let waiting : Job := { j with state := .waiting }
        let u := s.setChannel c { ch with queue := waiting :: ch.queue.tail }
        if s.outOfService p.kind ∨ p.secondary = .check ∧ s.outOfService .check then
          u.cutTo t c waiting (waiting.endedAs .failed .noEngine)
        else u.attempts t
      else if j.state.live = true then t = s
      else if ch.claim = false ∧ j.quiet ch.mode then
        State.headOn c n (s.setChannel c { ch with queue := ch.queue.tail, silent := min (ch.silent + 1) 255 }) t
      else t = s.setChannel c { ch with claim := true }

/-- t is s after the heads of these channels were dealt with, one channel after another. -/
def State.headsOn : List ChanIx → State → State → Prop
  | [], s, t => t = s
  | c :: rest, s, t => ∃ u : State, State.headOn c (s.channel c).queue.length s u ∧ State.headsOn rest u t

/-- t is s after at most n rounds: every channel's head is dealt with, then, where a slot is free and a claim stands, the slot
arbiter fills the slot with the first claim (R122, R123; `SlotArbiterGrantsTheFirstClaim` says with what). A JOB END that
enters takes its job off the queue, and the next entry is dealt with in the next round (R67). -/
def State.fills : Nat → State → State → Prop
  | 0, s, t => t = s
  | n + 1, s, t => ∃ u : State, State.headsOn allChannels s u ∧
    (if u.reports.outbox.length < 16 ∧ u.firstClaim ≠ none then State.fills n u.grantStep t else t = u)

/-- t is s after everything that follows at once in the channels: the outbox has 16 slots, so 17 rounds are enough. -/
def State.follows (s t : State) : Prop := State.fills 17 s t

/-! ### LOADING (R7, R11, R59) -/

/-- The stored copy that engine e reads to load part w of the job's stream: its own resident copy of that part, else the
table copy (R11). -/
def State.sourceCopy (s : State) (j : Job) (ew : EngineIx × Which) : Copy :=
  match (s.engine ew.1).part with
  | .resident n w k => if n = j.stream ∧ w = ew.2 then k else (s.stream j.stream).copy ew.2
  | _ => (s.stream j.stream).copy ew.2

/-- The arrival of a loading engine's read of a stored copy (R7, R141). -/
def contextRead (severity : Severity) (j : Job) : FaultRecord :=
  { severity := severity, kind := .context, site := some (.stream j.stream), tag := some j.tag }

/-- The arrivals of the loads of these parts, primary first: one CORRECTED CONTEXT arrival at the bank of each engine whose
read finds a correctable copy; an initializing phase reads nothing (R7, R11). -/
def State.loadArrivals (s : State) (j : Job) (parts : List (EngineIx × Which)) : State :=
  if j.phase = .whole ∨ j.phase = .first then s
  else
    parts.foldl (fun u ew =>
      if (s.sourceCopy j ew).level = .correctable then u.arrive (engineBank ew.1) (contextRead .corrected j) else u) s

/-- The value that part w starts from (R11): initial in an initializing phase, else what is read. -/
def State.loadedValue (s : State) (j : Job) (ew : EngineIx × Which) : PartValue :=
  if j.phase = .whole ∨ j.phase = .first then initialPart (s.stream j.stream).profile ew.2
  else (s.sourceCopy j ew).value

/-- The checkpoints of these parts written: the table copy of each holds, clean, what the part starts from (R11). -/
def State.checkpointed (s : State) (j : Job) (parts : List (EngineIx × Which)) : Stream :=
  let x := s.stream j.stream
  let copy (w : Which) : Copy :=
    match parts.find? (fun ew => ew.2 == w) with
    | some ew => { value := s.loadedValue j ew, level := .clean }
    | none => x.copy w
  { x with primaryCopy := copy .primary, checkCopy := copy .check }

/-- The head job j of channel c is in LOADING on distinct engines that save nothing. -/
abbrev State.loads (s : State) (c : ChanIx) (j : Job) : Prop :=
  s.head c = some j ∧ j.state = .loading ∧ j.workers ≠ [] ∧ (j.workers.map (·.1)).Nodup ∧
    ∀ ew ∈ j.workers, (s.engine ew.1).saveInProgress = false

/-- Every read of the LOADING of j finds its copy readable; an initializing phase reads nothing (R11). -/
abbrev State.readable (s : State) (j : Job) (parts : List (EngineIx × Which)) : Prop :=
  (j.phase = .whole ∨ j.phase = .first) ∨ ∀ ew ∈ parts, (s.sourceCopy j ew).level ≠ .uncorrectable

/-- u is s with the stream n FAULTED (R14): record state and tail state FAULTED and both copies lost. What a lost copy holds
is not said. -/
abbrev State.faults (s u : State) (n : StreamIx) : Prop :=
  ∃ k q : Copy, k.level = .uncorrectable ∧ q.level = .uncorrectable ∧
    u = s.setStream n { s.stream n with
      state := .faulted, tail := .faulted, primaryCopy := k, checkCopy := q }

/-- s with every resident part of the stream n dropped, and the save of one that was in a save ended with it (R10, R14,
R90). -/
def State.dropped (s : State) (n : StreamIx) : State :=
  { s with engines := s.engines.map (fun en =>
      match en.part with
      | .resident m _ _ => if m = n then { en with part := .none, saveInProgress := false } else en
      | _ => en) }

/-- The JOB ABORT that waits on the LOADING job of channel c answered, where one does (R70); a LINK OPEN accepted meanwhile
has its reply discarded (R162). -/
def State.abortAnswered (s : State) (c : ChanIx) (status : Status) : State :=
  match s.decoder with
  | .busy f (.abort d) discard =>
    if d = c then s.concluded f discard status else s
  | _ => s

/-! ### Copies that STREAM QUERY reads (R7, R23) -/

/-- The resident copy of a part, where an engine keeps one (R8). -/
def State.residentCopy (s : State) (n : StreamIx) (w : Which) : Option Copy :=
  allEngines.findSome? (fun e =>
    match (s.engine e).part with
    | .resident m v k => if m = n ∧ v = w then some k else none
    | _ => none)

/-- A stored copy after a read through its check code: a correctable error is corrected and written back (R7). -/
def Copy.reread (k : Copy) : Copy := if k.level = .correctable then { k with level := .clean } else k

/-- No two engines keep the same part of the stream resident (R8). -/
abbrev State.keptOnce (s : State) (n : StreamIx) : Prop :=
  ∀ g h, g ≠ h → ∀ w ∈ (s.stream n).profile.parts,
    ¬ ((s.engine g).holdsWorking = false ∧ (s.engine g).holds = some (n, w) ∧
      (s.engine h).holdsWorking = false ∧ (s.engine h).holds = some (n, w))

/-! ### Profiles (R4) -/

/-- The profile bytes of a STREAM OPEN payload are in range, fields that the profile does not use left unchecked (R4). -/
abbrev profileAccepted (p : List Byte) : Prop :=
  natAt p 2 ≤ 3 ∧ natAt p 3 ≤ 1 ∧ (natAt p 3 = 1 → natAt p 2 ≠ 3 ∧ natAt p 4 ≤ 1) ∧
    (natAt p 2 = 3 ∨ natAt p 3 = 1 → natAt p 8 ≤ 1) ∧ (natAt p 2 = 0 → natAt p 5 = 1 ∨ natAt p 5 = 2) ∧
    (natAt p 2 = 1 → 3 ≤ natAt p 5 ∧ natAt p 5 ≤ 8) ∧ (natAt p 2 = 2 → halfAt p 6 ≠ 0)

/-! ### Packed records (chapter 2, R177) -/

/-- What the primary writes of a run of DATA bytes from a context part, and the part it leaves. -/
def packSegment (p : Profile) : PartValue → List Byte → List Byte × PartValue
  | v, [] => ([], v)
  | v, x :: rest =>
    let (v', out) := consumeByte p v x
    let (more, last) := packSegment p v' rest
    (out ++ more, last)

/-- The packed output of a record of one segment: the bytes of its DATA and of its finalize step (R25, R177). -/
def packRecord (p : Profile) (data : List Byte) : List Byte :=
  let (out, v) := packSegment p (initialPart p .primary) data
  out ++ finalizeBytes p v

/-- How a receiver decodes a RUN record (R32, the note there). -/
def decodeRun (minRun : Nat) (escape : Byte) : List Byte → List Byte
  | [] => []
  | b :: rest =>
    if b ≠ escape then b :: decodeRun minRun escape rest
    else
      match rest with
      | [] => []
      | c :: rest =>
        if c = 0xFF then escape :: decodeRun minRun escape rest
        else
          match rest with
          | [] => []
          | v :: rest => List.replicate (c.toNat + minRun) v ++ decodeRun minRun escape rest

/-- The inverse of DELTA of width 1 (R29): each sample is the difference plus the sample before it. -/
def decodeDelta1 (previous : Byte) : List Byte → List Byte
  | [] => []
  | d :: rest => (d + previous) :: decodeDelta1 (d + previous) rest

/-- The inverse of DELTA of width 2 (R30, R31): pairs, low byte first, and an odd tail byte unchanged. -/
def decodeDelta2 (previous : Half) : List Byte → List Byte
  | low :: high :: rest =>
    let sample := (high ++ low : Half) + previous
    halfBytes sample ++ decodeDelta2 sample rest
  | tail => tail

end Sys2Proof.Machine
end

