-- ==== Sys2Proof/Certificates/Slice0/Obligations.lean ====
section
/-! DEFINITION. The statements for the provers. Each docstring names the rule of spec/ that the statement formalises. -/

open Sys2Proof Sys2Proof.Machine

/-! ### Steps and commands -/

/-- A step runs the command at the front of the queue, with the queue's rest; on an empty queue one millisecond passes,
every running timer counts it, and the findings of the moment that has passed are open no more. The command queue, the
idle millisecond and the findings are the model's choices (log entries 1, 2, 43). -/
def Obligations.StepRunsTheFrontCommand : Prop :=
  (∀ (c : Instr) (rest : List Instr) (s : State),
    step { s with pending := c :: rest } = exec c { s with pending := rest }) ∧
  ∀ s : State, s.pending = [] → ∃ t, step s = .next t ∧
    (∀ c, t.watch c = { s.watch c with
      timer := (s.watch c).timer.map (· + 1), clock := (s.watch c).clock.map (· + 1) }) ∧
    t = { s with
      link := { s.link with gapTimer := s.link.gapTimer.map (· + 1) }
      reports := { s.reports with retryTimer := s.reports.retryTimer.map (· + 1) }
      watches := t.watches
      late := [] }

/-- Every command answers a next state from every state, and leaves the queue of waiting commands as it was.
The model's own, by the assumption log: the queue of log 1, no stop of log 5. -/
def Obligations.EveryCommandRunsAndLeavesTheQueue : Prop :=
  ∀ (c : Instr) (s : State), ∃ t, exec c s = .next t ∧ t.pending = s.pending

/-! ### Power, resets and start-up -/

/-- The Power-on columns of the Initial state tables (R24, R75, R97, R116, R132, R150, R168), with start-up begun.
The model's own, by the assumption log: the queue of log 1, and in State.reset the link form of log 11, the blank FREE entries of log 36, the memory of log 28. -/
def Obligations.PowerOnGivesThePowerOnState : Prop :=
  ∀ s : State, ∃ t, exec .powerOn s = .next t ∧ t = { State.reset with pending := s.pending } ∧
    t.stage = .startUp ∧ t.decoder = .idle ∧ t.nextTag = 1 ∧ t.grantPtr = 0 ∧
    t.link.state = .closed ∧ t.link.receiver = .hunting ∧ t.link.gapTimer = none ∧ t.link.expected = 0 ∧
    t.link.inbox = [] ∧ t.link.cache = [] ∧ t.link.resync = none ∧ t.link.replies = [] ∧ t.link.sending = none ∧
    (∀ n, (t.stream n).state = .free) ∧
    (∀ c, (t.channel c).queue = [] ∧ (t.channel c).mode = .each ∧ (t.channel c).silent = 0 ∧
      (t.channel c).claim = false) ∧
    (∀ e, t.engine e = { state := .available, binding := .none, part := .none, job := none
                         saveInProgress := false, offlineDue := false }) ∧
    (∀ h, (t.store.buffer h).state = .free) ∧ t.store.freeCount = 512 ∧ t.store.reserve = 16 ∧
    t.store.waitQueue = [] ∧
    t.reports.outbox = [] ∧ t.reports.nextNumber = 0 ∧ 10 * t.reports.retryPeriod = 200 ∧
    t.reports.retryTimer = none ∧ t.reports.retryCount = 0 ∧ t.reports.jobEndPtr = 0 ∧
    (∀ b, t.reports.faultPending.get b = false) ∧ (∀ c, t.reports.watchPending.get c = none) ∧
    (∀ c, t.watch c = { warn := 100, limit := 1000, timer := none, warnTaken := false, clock := none }) ∧
    ∀ b, t.bank b = { record := none, overflow := false, corrected := 0, uncorrected := 0
                      maskCorrected := false, maskUncorrected := false }

/-- The RESETN pin columns: every block takes its reset state; the fault banks and the fault notice pending flags are kept;
an engine that is OFFLINE or has its offline due is OFFLINE, every other AVAILABLE (R24, R75, R97, R116, R132, R150,
R168).
The model's own, by the assumption log: the link form of log 12, the blank entries of log 36 and 37. -/
def Obligations.PinResetKeepsBanksAndOfflineEngines : Prop :=
  ∀ s : State, ∃ t, exec .resetnAssert s = .next t ∧ t.pending = s.pending ∧ t.stage = .held ∧ t.decoder = .idle ∧
    t.link = { resetLink with form := s.link.form } ∧ t.nextTag = 1 ∧ t.grantPtr = 0 ∧
    (∀ n, (t.stream n).state = .free) ∧
    (∀ c, (t.channel c).queue = [] ∧ (t.channel c).mode = .each ∧ (t.channel c).silent = 0 ∧
      (t.channel c).claim = false) ∧
    (∀ e, t.engine e =
      { state := if (s.engine e).state = .offline ∨ (s.engine e).offlineDue = true then .offline else .available
        binding := .none, part := .none, job := none, saveInProgress := false, offlineDue := false }) ∧
    t.store = emptyStore ∧ t.banks = s.banks ∧
    t.reports = { freshReports with faultPending := s.reports.faultPending } ∧
    ∀ c, t.watch c = { warn := 100, limit := 1000, timer := none, warnTaken := false, clock := none }

/-- Start-up begins when RESETN rises; at its end LSEL is sampled, low for UART and high for SPI, and the Host Link
Controller stands as its table gives (R151, R168). The last clause: with no fault notice pending nothing else happens.
The model's own, by the assumption log: the settling of log 14 and 16 where notices are pending, shut out here. -/
def Obligations.StartUpFollowsTheReset : Prop :=
  (∀ s : State, s.stage = .held → exec .resetnRelease s = .next { s with stage := .startUp }) ∧
  ∀ (s : State) (lsel : PinLevel), s.stage = .startUp → (∀ c, s.channel c = emptyChannel) →
    (∀ b, s.reports.faultPending.get b = false) → (∀ c, s.reports.watchPending.get c = none) →
    exec (.startUpEnd lsel) s = .next { s with
      stage := .running
      link := { resetLink with form := match lsel with | .low => .uart | .high => .spi } }

/-! ### Frames and the receiver -/

/-- The bytes of a frame, SYNC first and CHECK low byte first, bring the receiver from HUNTING to a complete frame whose
CHECK agrees, and the frame taken is the one that was sent, whatever its SEQ, KIND and payload (R153, R154, R156).
The model's own, by the assumption log: FRAME_RECEIVED of log 7. -/
def Obligations.EncodedFrameIsReceivedWhole : Prop :=
  ∀ (s : State) (f : Frame), s.stage = .running → s.link.receiver = .hunting → f.payload.length ≤ 240 →
    exec (.frameReceived (encodeFrame f)) s =
      .next (State.takeFrame { s with link := { s.link with gapTimer := none } } f)

/-- The rows of the receiver's table that complete no frame (R154), the bad character of UART form (R156), and the gap
timer's expiry, no earlier than 5 ms after its start, which discards the partial frame without a notice (R155). A whole
frame whose CHECK does not agree is discarded, with a RESYNC notice CHECK unless the link is CLOSED (R156).
The model's own, by the assumption log: FRAME_RECEIVED of log 7. -/
def Obligations.InboundByteMovesTheReceiver : Prop :=
  ∀ (s : State) (b : Byte), s.stage = .running →
    let stored (bs : List Byte) := { s with link := { s.link with receiver := .inFrame bs, gapTimer := some 0 } }
    let hunting := { s with link := { s.link with receiver := .hunting, gapTimer := none } }
    (s.link.receiver = .hunting → b = 0xC3 → exec (.inboundByte (.byte b)) s = .next (stored [])) ∧
    (s.link.receiver = .hunting → b ≠ 0xC3 → exec (.inboundByte (.byte b)) s = .next s) ∧
    (s.link.receiver = .inFrame [] → b.toNat ≤ 240 → exec (.inboundByte (.byte b)) s = .next (stored [b])) ∧
    (s.link.receiver = .inFrame [] → 240 < b.toNat → exec (.inboundByte (.byte b)) s = .next hunting) ∧
    (∀ len rest, s.link.receiver = .inFrame (len :: rest) → rest.length < 3 + len.toNat →
      exec (.inboundByte (.byte b)) s = .next (stored (len :: rest ++ [b]))) ∧
    (s.link.form = .uart → exec (.inboundByte .badCharacter) s = .next hunting) ∧
    (∀ partialFrame ms, s.link.receiver = .inFrame partialFrame → s.link.gapTimer = some ms → 5 ≤ ms →
      exec .gapTimerExpiry s = .next hunting) ∧
    ∀ (f : Frame) (check : Half), s.link.receiver = .hunting → f.payload.length ≤ 240 →
      check ≠ frameCheck (frameBody f) → exec (.frameReceived (0xC3 :: frameBody f ++ halfBytes check)) s =
        .next { s with link := { s.link with
          gapTimer := none
          resync := if s.link.state = .closed then s.link.resync else some .check } }

/-! ### Sequence acceptance -/

/-- A well-checked frame that is no LINK OPEN: in OPEN it is accepted at E while the inbox holds fewer than 4 frames, discarded
with RESYNC FULL at E when it holds 4, and discarded with RESYNC ORDER where its SEQ is neither E nor one of the four
before it; in QUIET the link first returns to OPEN (R157, R158); in CLOSED it is answered NOT-OPEN and not executed, E
unchanged, or discarded where 4 such replies wait (R161).
The model's own, by the assumption log: FRAME_RECEIVED of log 7, the count of log 32. -/
def Obligations.SequenceAcceptance : Prop :=
  ∀ (s : State) (f : Frame), s.stage = .running → s.link.receiver = .hunting → s.link.gapTimer = none →
    f.payload.length ≤ 240 → (f.kind ≠ 0x01 ∨ f.payload ≠ []) →
    (s.link.state ≠ .closed →
      ∃ o : State, exec (.frameReceived (encodeFrame f)) s = .next o ∧
        (s.link.state = .opened → o.reports = s.reports) ∧
        (s.link.state = .quiet → o.reports = { s.reports with
          outbox := s.reports.outbox.map (fun r => { r with sendDue := true })
          retryCount := 0
          retryTimer := if s.reports.retryPeriod ≠ 0 ∧ s.reports.outbox ≠ [] then some 0 else none }) ∧
        o = { s with reports := o.reports, link := o.link } ∧
        (f.seq = s.link.expected → s.link.inbox.length < 4 →
          o.link = { s.link with
            state := .opened, inbox := s.link.inbox ++ [f], expected := s.link.expected + 1 }) ∧
        (f.seq = s.link.expected → 4 ≤ s.link.inbox.length →
          o.link = { s.link with state := .opened, resync := some .full }) ∧
        ((∀ k : Nat, k ≤ 4 → f.seq ≠ s.link.expected - BitVec.ofNat 8 k) →
          o.link = { s.link with state := .opened, resync := some .order })) ∧
    (s.link.state = .closed →
      let waiting := (s.link.replies.filter (fun r => r.role == .notOpen)).length
      (waiting < 4 → exec (.frameReceived (encodeFrame f)) s = .next { s with link := { s.link with
        replies := s.link.replies ++ [f.reply .notOpen .notOpen []] } }) ∧
      (4 ≤ waiting → exec (.frameReceived (encodeFrame f)) s = .next s))

/-- A duplicate, with one of the four numbers before E, is never executed: its cached reply is re-sent once, or it is
discarded as in progress, or discarded with RESYNC ORDER; E, the inbox and the cache stay (R159).
The model's own, by the assumption log: the reading of log 33. -/
def Obligations.DuplicatesAreAnsweredFromTheCache : Prop :=
  ∀ (s : State) (f : Frame) (k : Nat), s.stage = .running → s.link.receiver = .hunting → s.link.gapTimer = none →
    f.payload.length ≤ 240 → (f.kind ≠ 0x01 ∨ f.payload ≠ []) → s.link.state = .opened →
    1 ≤ k → k ≤ 4 → f.seq = s.link.expected - BitVec.ofNat 8 k →
    (∀ r, s.link.cache.find? (fun r => r.frame.seq == f.seq) = some r →
      (s.link.replies.any (fun q => q.frame == r.frame) = true →
        exec (.frameReceived (encodeFrame f)) s = .next s) ∧
      (s.link.replies.any (fun q => q.frame == r.frame) = false →
        ∃ role, exec (.frameReceived (encodeFrame f)) s = .next { s with link := { s.link with
          replies := s.link.replies ++ [{ frame := r.frame, role := role }] } })) ∧
    ((∀ r ∈ s.link.cache, r.frame.seq ≠ f.seq) →
      ((∃ q ∈ s.link.inbox, q.seq = f.seq) ∨ (∃ q hold d, s.decoder = .busy q hold d ∧ q.seq = f.seq) →
        exec (.frameReceived (encodeFrame f)) s = .next s) ∧
      ((∀ q ∈ s.link.inbox, q.seq ≠ f.seq) → (∀ q hold d, s.decoder = .busy q hold d → q.seq ≠ f.seq) →
        exec (.frameReceived (encodeFrame f)) s =
          .next { s with link := { s.link with resync := some .order } }))

/-- The acceptance of a LINK OPEN frame, in every link state and whatever its SEQ and the inbox (R162, R130): inbox, waiting
replies (but a RESET's), cache and RESYNC notice are discarded, E is re-based, the link is OPEN, every outstanding
report is marked and the reports are held back; nothing outside link, decoder and Report Unit changes.
The model's own, by the assumption log: the flag of log 30. -/
def Obligations.LinkOpenIsAcceptedInEveryState : Prop :=
  ∀ (s : State) (seq : Byte), s.stage = .running → s.link.receiver = .hunting → s.link.gapTimer = none →
    ∃ t, exec (.frameReceived (encodeFrame { seq := seq, kind := 0x01, payload := [] })) s = .next t ∧
      t = { s with link := t.link, decoder := t.decoder, reports := t.reports } ∧
      t.link.state = .opened ∧ t.link.inbox = [{ seq := seq, kind := 0x01, payload := [] }] ∧
      t.link.expected = seq + 1 ∧ t.link.cache = [] ∧ t.link.resync = none ∧
      t.link.replies = s.link.replies.filter (fun r => r.role == .reset) ∧
      t.link.sending.map (·.frame) = s.link.sending.map (·.frame) ∧ t.link.holdReports = true ∧
      t.link.form = s.link.form ∧ t.link.receiver = .hunting ∧
      (∀ q hold d, s.decoder = .busy q hold d → t.decoder = .busy q hold true) ∧
      ((∀ q hold d, s.decoder ≠ .busy q hold d) → t.decoder = s.decoder) ∧
      t.reports = { s.reports with
        outbox := s.reports.outbox.map (fun r => { r with sendDue := true })
        retryCount := 0
        retryTimer := if s.reports.retryPeriod ≠ 0 ∧ s.reports.outbox ≠ [] then some 0 else none }

/-! ### The transmitter -/

/-- The free transmitter begins the pending RESYNC notice, else the oldest waiting reply, else the oldest outstanding report
with its send-due mark; reports are not ready in CLOSED and QUIET and not while a LINK OPEN reply is awaited (R160, R166).
ATTN is asserted while a frame is being sent or could begin, and deasserted in reset and during start-up (R152).
The model's own, by the assumption log: the flag of log 30, ATTN of log 13. -/
def Obligations.TransmitterBeginsTheFirstReadyFrame : Prop :=
  (∀ s : State, s.stage = .running → s.link.sending = none →
    (∀ r, s.link.resync = some r → exec .transmitFrameBegin s = .next { s with link := { s.link with
      resync := none
      sending := some { source := .resync
                        frame := { seq := s.link.expected, kind := 0xA0, payload := [resyncCode r] } } } }) ∧
    (∀ r rest, s.link.resync = none → s.link.replies = r :: rest →
      exec .transmitFrameBegin s = .next { s with link := { s.link with
        replies := rest, sending := some { source := .reply r.role, frame := r.frame } } }) ∧
    (∀ older r newer, s.link.resync = none → s.link.replies = [] → s.link.state = .opened →
      s.link.holdReports = false → s.reports.outbox = older ++ r :: newer → (∀ q ∈ older, q.sendDue = false) →
      r.sendDue = true → exec .transmitFrameBegin s = .next { s with link := { s.link with
        sending := some { source := .report r.number, frame := reportFrame r } } }) ∧
    (s.link.resync = none → s.link.replies = [] →
      (s.link.state ≠ .opened ∨ s.link.holdReports = true ∨ ∀ q ∈ s.reports.outbox, q.sendDue = false) →
      exec .transmitFrameBegin s = .next s)) ∧
  ∀ s : State,
    (s.stage ≠ .running → s.attnAsserted = false) ∧
    (s.stage = .running → (s.attnAsserted = true ↔
      s.link.sending ≠ none ∨ ∃ t, exec .transmitFrameBegin s = .next t ∧ t.link.sending ≠ none))

/-- The sending of a frame in full, and the retry timer. A report's send-due mark is cleared (R126), a LINK OPEN reply releases
the reports held back (R163), a RESET reply is followed by the effects of a RESETN pin reset and by start-up (R167), and
the transmitter is free (R166). The retry timer's expiry, no earlier than the retry period: for counts 0 to 4 every
outstanding report is marked and the timer starts again, on the sixth the link enters QUIET, marks cleared and timer
stopped (R128).
The model's own, by the assumption log: the flag of log 30, the clearing of log 31. -/
def Obligations.FrameSentAndRetryExpiryHaveTheirEffect : Prop :=
  (∀ (s : State) (f : Frame),
    (∀ n, s.link.sending = some { source := .report n, frame := f } → exec .frameSent s = .next { s with
      link := { s.link with sending := none }
      reports := { s.reports with
        outbox := s.reports.outbox.map (fun r => if r.number = n then { r with sendDue := false } else r) } }) ∧
    (s.link.sending = some { source := .reply .linkOpen, frame := f } →
      exec .frameSent s = .next { s with link := { s.link with sending := none, holdReports := false } }) ∧
    (s.link.sending = some { source := .reply .reset, frame := f } →
      ∃ t, exec .resetnAssert s = .next t ∧ exec .frameSent s = .next { t with stage := .startUp }) ∧
    (∀ src, s.link.sending = some { source := src, frame := f } →
      src = .resync ∨ src = .reply .ordinary ∨ src = .reply .notOpen →
      exec .frameSent s = .next { s with link := { s.link with sending := none } })) ∧
  ∀ (s : State) (ms : Nat), s.reports.retryTimer = some ms → 10 * s.reports.retryPeriod ≤ ms →
    (s.reports.retryCount ≤ 4 → exec .retryTimerExpiry s = .next { s with reports := { s.reports with
      retryCount := s.reports.retryCount + 1
      outbox := s.reports.outbox.map (fun r => { r with sendDue := true })
      retryTimer := some 0 } }) ∧
    (s.reports.retryCount = 5 → exec .retryTimerExpiry s = .next { s with
      link := { s.link with state := .quiet }
      reports := { s.reports with
        retryCount := 6
        outbox := s.reports.outbox.map (fun r => { r with sendDue := false })
        retryTimer := none } })

/-! ### The Request Decoder -/

/-- The requests of the Host Link Controller and the generic checks: LINK OPEN is answered with the identity, the capacities
and the report numbers (R163), RESET is answered OK and the decoder takes no further frame (R167), a frame whose KIND is
no request kind is answered UNKNOWN-KIND (R171); a request whose LEN is not allowed for its kind is answered BAD-LENGTH,
one with a reserved byte or bit set BAD-FIELD, and nothing else changes (R164, R171).
The model's own, by the assumption log: the request rows of log 3. -/
def Obligations.LinkRequestsAndGenericChecksAreAnswered : Prop :=
  (∀ (s : State) (f : Frame),
    (s.takes 0x01 f → exec .linkOpen s = .next (s.answered f .linkOpen .ok
      [0x54, 0x46, 0x02, 4, 8, 16, 48, 0x00, 0x02, 64, 16, 4, 240,
        (s.reports.outbox.head?.map (·.number)).getD s.reports.nextNumber, s.reports.nextNumber])) ∧
    (s.takes 0x03 f → exec .reset s =
      .next { s.answered f .reset .ok [] with decoder := .resetting }) ∧
    (s.offers f → f.kind ∉ requestKinds →
      exec .unknownKindRequest s = .next (s.answered f .ordinary .unknownKind []))) ∧
  ∀ (c : Instr) (k : Byte) (s : State) (f : Frame), requestKind c = some k → s.offers f → f.kind = k →
    (lengthAllowed f = false → exec c s = .next (s.answered f .ordinary .badLength [])) ∧
    (lengthAllowed f = true → reservedSet f = true → exec c s = .next (s.answered f .ordinary .badField []))

/-- A refusal by an owner's check changes nothing in the part except the reply and the cache (R164), for every request: where
the newest cached reply carries a status other than OK, everything else is as it was. A DATA-ERROR of BUF READ is the
outcome of a read that was made, not a refusal. -/
def Obligations.RefusedRequestChangesNothing : Prop :=
  ∀ (c : Instr) (k : Byte) (s t : State) (f : Frame) (r : Reply) (status : Status), requestKind c = some k →
    s.takes k f → exec c s = .next t → t.decoder = .idle → t.link.cache.getLast? = some r →
    r.frame.payload.take 2 = [k, statusCode status] → status ≠ .ok → status ≠ .dataError →
    t = s.answered f .ordinary status []

/-! ### The buffer store -/

/-- BUF ALLOC: its checks in order, and on acceptance the lowest FREE handle with its cleared blocks (R103), the
lowest-numbered free blocks, each once and in rising order (R99). -/
def Obligations.BufAllocFollowsItsRule : Prop :=
  ∀ (s : State) (f : Frame), s.takes 0x10 f → s.store.blocksCounted →
    let n := (halfAt f.payload 0).toNat
    let k := (n + 63) / 64
    (n = 0 ∨ 4096 < n → exec .bufAlloc s = .next (s.answered f .ordinary .badField [])) ∧
    (1 ≤ n → n ≤ 4096 → s.store.freeCount < s.store.reserve + k →
      exec .bufAlloc s = .next (s.answered f .ordinary .noSpace [])) ∧
    (1 ≤ n → n ≤ 4096 → s.store.reserve + k ≤ s.store.freeCount →
      (∀ h, 1 ≤ h → h ≤ 48 → (s.store.buffer h).state ≠ .free) →
      exec .bufAlloc s = .next (s.answered f .ordinary .noHandle [])) ∧
    ∀ h, 1 ≤ n → n ≤ 4096 → s.store.reserve + k ≤ s.store.freeCount → 1 ≤ h → h ≤ 48 →
      (s.store.buffer h).state = .free → (∀ g, 1 ≤ g → g < h → (s.store.buffer g).state ≠ .free) →
      ∃ st : Store, exec .bufAlloc s = .next ((s.setStore st).answered f .ordinary .ok [BitVec.ofNat 8 h]) ∧
        st.buffer h = { state := .allocated, origin := .host, size := n, blocks := (st.buffer h).blocks
                        maximum := 0, ownerTag := 0, useCount := 0, inputLocked := false, outputLocked := false } ∧
        (st.buffer h).blocks.length = k ∧ (∀ b ∈ (st.buffer h).blocks, b < 512 ∧ b ∉ s.store.heldBlocks) ∧
        (st.buffer h).blocks.Pairwise (· < ·) ∧
        (∀ b ∈ (st.buffer h).blocks, ∀ a < b, a ∈ s.store.heldBlocks ∨ a ∈ (st.buffer h).blocks) ∧
        (∀ g, g ≠ h → st.buffer g = s.store.buffer g) ∧ st.freeCount = s.store.freeCount - k ∧
        st.reserve = s.store.reserve ∧ st.waitQueue = s.store.waitQueue ∧
        (∀ o, o < 64 * k → st.readAt h o = 0 ∧ st.levelOf h o = .clean) ∧
        ∀ a, a / 64 ∉ (st.buffer h).blocks →
          st.byteAt a = s.store.byteAt a ∧ st.levelAt (a / 8) = s.store.levelAt (a / 8)

/-- BUF WRITE: its checks in order, and on acceptance the data bytes from the offset onward with the word handling of R98:
every word the write covers is clean, the other bytes of a covered word that was uncorrectable become 00H, and every
other byte and word stays (R104, R98). -/
def Obligations.BufWriteStoresItsBytes : Prop :=
  ∀ (s : State) (f : Frame), s.takes 0x11 f → s.store.blocksCounted → s.store.canonical →
    let h := (byteAt f.payload 0).toNat
    let o := (halfAt f.payload 2).toNat
    let data := f.payload.drop 4
    let b := s.store.buffer h
    let written (a : Nat) := ∃ k, k < data.length ∧ b.address (o + k) = some a
    let covered (w : Nat) := ∃ a, written a ∧ a / 8 = w
    (b.state ≠ .allocated → exec .bufWrite s = .next (s.answered f .ordinary .badHandle [])) ∧
    (b.state = .allocated → b.size < o + data.length →
      exec .bufWrite s = .next (s.answered f .ordinary .badRange [])) ∧
    (b.state = .allocated → o + data.length ≤ b.size → 0 < b.useCount →
      exec .bufWrite s = .next (s.answered f .ordinary .locked [])) ∧
    (b.state = .allocated → o + data.length ≤ b.size → b.useCount = 0 →
      ∃ st : Store, exec .bufWrite s = .next ((s.setStore st).answered f .ordinary .ok []) ∧
        st.handles = s.store.handles ∧ st.freeCount = s.store.freeCount ∧ st.reserve = s.store.reserve ∧
        st.waitQueue = s.store.waitQueue ∧
        (∀ k a, k < data.length → b.address (o + k) = some a → st.byteAt a = data.getD k 0) ∧
        (∀ a, ¬ written a → covered (a / 8) → s.store.levelAt (a / 8) = .uncorrectable → st.byteAt a = 0) ∧
        (∀ a, ¬ written a → ¬ (covered (a / 8) ∧ s.store.levelAt (a / 8) = .uncorrectable) →
          st.byteAt a = s.store.byteAt a) ∧
        (∀ w, covered w → st.levelAt w = .clean) ∧ ∀ w, ¬ covered w → st.levelAt w = s.store.levelAt w)

/-- BUF READ: its checks in order, then the words that hold the bytes are read in buffer order. Each correctable word is
written back clean and is one CORRECTED arrival at bank 6; with no word uncorrectable the reply gives the bytes. The
first uncorrectable word stops the read, is one UNCORRECTED arrival, and the reply is DATA-ERROR without data (R105). -/
def Obligations.BufReadReadsThroughTheCode : Prop :=
  ∀ (s : State) (f : Frame), s.takes 0x12 f →
    let h := (byteAt f.payload 0).toNat
    let o := (halfAt f.payload 2).toNat
    let n := (byteAt f.payload 4).toNat
    let b := s.store.buffer h
    let bytes := (List.range n).map (fun k => s.store.readAt h (o + k))
    let words := (List.range ((o + n - 1) / 8 - o / 8 + 1)).map (fun i => 8 * (o / 8 + i))
    let arrival (v : Severity) (w : Nat) : FaultRecord :=
      { severity := v, kind := .blockData, site := some (.block h w), tag := none }
    let corrected (read : List Nat) : State :=
      (read.filter (fun w => s.store.levelOf h w = .correctable)).foldl (fun u w =>
        (u.setStore (u.store.setLevel ((b.address w).getD 0 / 8) .clean)).arrive 6 (arrival .corrected w)) s
    (n = 0 ∨ 236 < n → exec .bufRead s = .next (s.answered f .ordinary .badField [])) ∧
    (1 ≤ n → n ≤ 236 → b.state ≠ .allocated → exec .bufRead s = .next (s.answered f .ordinary .badHandle [])) ∧
    (1 ≤ n → n ≤ 236 → b.state = .allocated → b.size < o + n →
      exec .bufRead s = .next (s.answered f .ordinary .badRange [])) ∧
    (1 ≤ n → n ≤ 236 → b.state = .allocated → o + n ≤ b.size → b.outputLocked = true →
      exec .bufRead s = .next (s.answered f .ordinary .locked [])) ∧
    (1 ≤ n → n ≤ 236 → b.state = .allocated → o + n ≤ b.size → b.outputLocked = false →
      ((∀ k, k < n → s.store.levelOf h (o + k) = .clean) →
        exec .bufRead s = .next (s.answered f .ordinary .ok bytes)) ∧
      (s.store.blocksCounted →
        ((∀ w ∈ words, s.store.levelOf h w ≠ .uncorrectable) →
          exec .bufRead s = .next ((corrected words).answered f .ordinary .ok bytes)) ∧
        ∀ read w rest, words = read ++ w :: rest → (∀ v ∈ read, s.store.levelOf h v ≠ .uncorrectable) →
          s.store.levelOf h w = .uncorrectable → exec .bufRead s =
            .next (((corrected read).arrive 6 (arrival .uncorrected w)).answered f .ordinary .dataError [])))

/-- BUF FREE: its checks in order, and with no channel waiting the handle becomes FREE and every block of the buffer rejoins
the free set (R106, R112). -/
def Obligations.BufFreeReturnsTheBlocks : Prop :=
  ∀ (s : State) (f : Frame), s.takes 0x13 f →
    let h := (byteAt f.payload 0).toNat
    let b := s.store.buffer h
    (b.state = .free → exec .bufFree s = .next (s.answered f .ordinary .badHandle [])) ∧
    (b.state ≠ .free → b.state = .pending ∨ 0 < b.useCount →
      exec .bufFree s = .next (s.answered f .ordinary .locked [])) ∧
    (b.state = .allocated → b.useCount = 0 → s.store.waitQueue = [] →
      ∃ st : Store, exec .bufFree s = .next ((s.setStore st).answered f .ordinary .ok []) ∧
        (st.buffer h).state = .free ∧ (st.buffer h).blocks = [] ∧ (∀ g, g ≠ h → st.buffer g = s.store.buffer g) ∧
        st.freeCount = s.store.freeCount + b.blocks.length ∧ st.mem = s.store.mem ∧
        st.levels = s.store.levels ∧ st.reserve = s.store.reserve ∧ st.waitQueue = [])

/-- The blocks of a freed buffer go to the channels that wait, not to the free set (R106, R112): BUF FREE makes the handle FREE
and releases the blocks in the order of their list, each to the channel at the head of the block wait queue, which leaves
it, and with no channel left to the free set. The block is appended to the waiter's AUTO buffer, its due byte first and
the rest 00H and clean (R99); the job and its primary engine return to RUNNING, a progress event; a due byte may be one of
the finalize step, and the last one due steps the primary's working copy (R34). The blocks of an AUTO buffer freed at its
job's end take the same way: `State.cutTo` says so in every statement of such an end (R113, R114).
The model's own, by the assumption log: the due bytes and the byte in hand of log 27. -/
def Obligations.ReleasedBlockGoesToTheHeadWaiter : Prop :=
  ∀ (s : State) (f : Frame), s.takes 0x13 f → s.coherent → s.store.blocksCounted →
    (∀ c ∈ s.store.waitQueue, s.awaitsBlock c) →
    let h := (byteAt f.payload 0).toNat
    let b := s.store.buffer h
    b.state = .allocated → b.useCount = 0 →
    ∃ u t : State, exec .bufFree s = .next (t.answered f .ordinary .ok []) ∧
      (∀ g, u.store.buffer g = if g = h then Machine.freeBuffer else s.store.buffer g) ∧
      u = { s with store := { s.store with handles := u.store.handles } } ∧ u.releases b.blocks t

/-- BUF INFO and STORE SET. BUF INFO refuses a handle above 48, gives for handle 0 the store summary, for a FREE handle the
state and zeros, for another handle its entry, and changes nothing (R107, with the layout of R172). STORE SET refuses a
value above 128; another becomes the reserve, and no block, buffer or wait queue entry moves (R108). -/
def Obligations.BufInfoAndStoreSetFollowTheirRules : Prop :=
  (∀ (s : State) (f : Frame), s.takes 0x14 f →
    let h := (byteAt f.payload 0).toNat
    let b := s.store.buffer h
    let entry (code : Byte) (rest : List Byte) :=
      [code, originCode b.origin] ++ numBytes b.size ++ [BitVec.ofNat 8 b.blocks.length, BitVec.ofNat 8 b.useCount,
        (if b.inputLocked then 1 else 0) + (if b.outputLocked then 2 else 0)] ++ rest
    (48 < h → exec .bufInfo s = .next (s.answered f .ordinary .badHandle [])) ∧
    (h = 0 → exec .bufInfo s = .next (s.answered f .ordinary .ok
      (numBytes s.store.freeCount ++
        [BitVec.ofNat 8 (s.store.handles.toList.filter (fun b => b.state == .free)).length,
          BitVec.ofNat 8 s.store.reserve, BitVec.ofNat 8 s.store.waitQueue.length] ++
        (s.store.waitQueue.map (fun (c : ChanIx) => BitVec.ofNat 8 c.val) ++ [0xFF, 0xFF, 0xFF, 0xFF]).take 4))) ∧
    (1 ≤ h → h ≤ 48 → b.state = .free →
      exec .bufInfo s = .next (s.answered f .ordinary .ok [0, 0, 0, 0, 0, 0, 0, 0, 0, 0, 0])) ∧
    (1 ≤ h → h ≤ 48 → b.state = .allocated →
      exec .bufInfo s = .next (s.answered f .ordinary .ok (entry 0x01 [0, 0, 0, 0]))) ∧
    (1 ≤ h → h ≤ 48 → b.state = .pending →
      exec .bufInfo s =
        .next (s.answered f .ordinary .ok (entry 0x02 (numBytes b.maximum ++ numBytes b.ownerTag))))) ∧
  ∀ (s : State) (f : Frame), s.takes 0x15 f →
    let v := (byteAt f.payload 0).toNat
    (128 < v → exec .storeSet s = .next (s.answered f .ordinary .badField [])) ∧
    (v ≤ 128 → exec .storeSet s =
      .next (State.answered { s with store := { s.store with reserve := v } } f .ordinary .ok []))

/-- The two error events: a stored word of a buffer's block rises one level, clean to correctable and correctable to
uncorrectable, where it stays (R98); a stored context copy, the table copy of either part or a resident copy, is left at
the level the event gives, the worse level standing (R7).
The model's own, by the assumption log: the operands of log 42; that the worse level of a copy stands is log 22. -/
def Obligations.ErrorEventsRaiseTheLevel : Prop :=
  (∀ (s : State) (block : Fin 512) (word : Fin 8), block.val ∈ s.store.heldBlocks →
    ∃ st : Store, exec (.storedWordErrorEvent block word) s = .next (s.setStore st) ∧
      st = { s.store with levels := st.levels } ∧
      st.levelAt (8 * block.val + word.val) =
        (if s.store.levelAt (8 * block.val + word.val) = .clean then .correctable else .uncorrectable) ∧
      ∀ w, w ≠ 8 * block.val + word.val → st.levelAt w = s.store.levelAt w) ∧
  (∀ (s : State) (n : StreamIx) (level : ErrLevel), (s.stream n).state ≠ .free → level ≠ .clean →
    let x := s.stream n
    let struck (k : Copy) : Copy := { k with level := if k.level = .uncorrectable then .uncorrectable else level }
    exec (.contextCopyErrorEvent (.table n .primary) level) s =
      .next (s.setStream n { x with primaryCopy := struck x.primaryCopy }) ∧
    exec (.contextCopyErrorEvent (.table n .check) level) s =
      .next (s.setStream n { x with checkCopy := struck x.checkCopy })) ∧
  ∀ (s : State) (e : EngineIx) (n : StreamIx) (w : Which) (k : Copy) (level : ErrLevel),
    (s.engine e).part = .resident n w k → level ≠ .clean →
    exec (.contextCopyErrorEvent (.resident e) level) s = .next (s.setEngine e { s.engine e with
      part := .resident n w { k with level := if k.level = .uncorrectable then .uncorrectable else level } })

/-! ### The stream requests -/

/-- STREAM OPEN: its checks in order, the profile against R4, and the entry as acceptance leaves it, the profile stored with
unused fields 0, the high byte of the base of a DELTA of width 1 among them (R18, R4, R6, R173). -/
def Obligations.StreamOpenFollowsItsRule : Prop :=
  ∀ (s : State) (f : Frame), s.takes 0x20 f →
    let b := byteAt f.payload 0
    let home := (byteAt f.payload 1).toNat
    (15 < b.toNat → b ≠ 0xFF → exec .streamOpen s = .next (s.answered f .ordinary .badField [])) ∧
    (∀ n : StreamIx, b.toNat = n.val → (s.stream n).state ≠ .free →
      exec .streamOpen s = .next (s.answered f .ordinary .streamTaken [])) ∧
    (b = 0xFF → (∀ n, (s.stream n).state ≠ .free) →
      exec .streamOpen s = .next (s.answered f .ordinary .tableFull [])) ∧
    ∀ n : StreamIx, (s.stream n).state = .free →
      (b.toNat = n.val ∨ b = 0xFF ∧ ∀ m, m < n → (s.stream m).state ≠ .free) →
      (3 < home ∨ ¬ profileAccepted f.payload →
        exec .streamOpen s = .next (s.answered f .ordinary .badField [])) ∧
      (∀ c : ChanIx, home = c.val → profileAccepted f.payload → ∃ p : Profile,
        kindCode p.kind = byteAt f.payload 2 ∧ secondaryCode p.secondary = byteAt f.payload 3 ∧
        tapCode p.tap = (if p.secondary = .check then byteAt f.payload 4 else 0) ∧
        p.deltaWidth = (if p.kind = .delta then natAt f.payload 5 else 0) ∧
        p.runMin = (if p.kind = .run then natAt f.payload 5 else 0) ∧
        p.deltaBase = (if p.kind = .delta then
          (if natAt f.payload 5 = 1 then (byteAt f.payload 6).setWidth 16 else halfAt f.payload 6) else 0) ∧
        p.runEscape = (if p.kind = .run then byteAt f.payload 6 else 0) ∧
        p.whitenSeed = (if p.kind = .whiten then halfAt f.payload 6 else 0) ∧
        variantCode p.variant = (if p.kind = .check ∨ p.secondary = .check then byteAt f.payload 8 else 0) ∧
        p.crcInit = (if (p.kind = .check ∨ p.secondary = .check) ∧ p.variant = .crc16 then halfAt f.payload 9 else 0) ∧
        p.crcXorout =
          (if (p.kind = .check ∨ p.secondary = .check) ∧ p.variant = .crc16 then halfAt f.payload 11 else 0) ∧
        exec .streamOpen s = .next ((s.setStream n
          { state := .atRest, home := c, profile := p, key := none, inFlight := 0, tail := .atRest
            segments := 0, bytesIn := 0, bytesOut := 0
            primaryCopy := { value := initialPart p .primary, level := .clean }
            checkCopy := { value := initialPart p .check, level := .clean } }).answered f .ordinary .ok
              [BitVec.ofNat 8 n.val]))

/-- STREAM CLOSE and STREAM RESET: held behind a swap save of a part of the stream (R89), else their checks in order, and on
acceptance every resident part of the stream dropped and the entry FREE, or AT-REST with initial values (R19, R20,
R10).
The model's own, by the assumption log: the blank FREE entry of log 36. -/
def Obligations.StreamCloseAndResetDropTheContext : Prop :=
  ∀ (s : State) (f : Frame) (c : Instr) (k : Byte),
    (c = .streamClose ∧ k = 0x21 ∨ c = .streamReset ∧ k = 0x22) → s.takes k f →
    let b := (byteAt f.payload 0).toNat
    ((∃ n : StreamIx, b = n.val ∧ s.inSwap n = true) → exec c s = .next (s.holding f .swapSave)) ∧
    ((∀ n : StreamIx, b = n.val → (s.stream n).state = .free ∧ s.inSwap n = false) →
      exec c s = .next (s.answered f .ordinary .noStream [])) ∧
    ∀ n : StreamIx, b = n.val → s.inSwap n = false → (s.stream n).state ≠ .free →
      let x := s.stream n
      (∀ key, x.key = some key → key ≠ quadAt f.payload 1 →
        exec c s = .next (s.answered f .ordinary .keyMismatch [])) ∧
      ((∀ key, x.key = some key → key = quadAt f.payload 1) → 0 < x.inFlight →
        exec c s = .next (s.answered f .ordinary .busy [])) ∧
      ((∀ key, x.key = some key → key = quadAt f.payload 1) → x.inFlight = 0 →
        ∃ t : State, exec c s = .next (t.answered f .ordinary .ok []) ∧
          t = { s with streams := t.streams, engines := t.engines } ∧
          (∀ m, m ≠ n → t.stream m = s.stream m) ∧
          t.stream n = (if c = .streamClose then freeStream else
            { x with
              state := .atRest, tail := .atRest
              primaryCopy := { value := initialPart x.profile .primary, level := .clean }
              checkCopy := { value := initialPart x.profile .check, level := .clean } }) ∧
          ∀ e, t.engine e =
            match (s.engine e).part with
            | .resident m _ _ =>
              if m = n then { s.engine e with part := .none, saveInProgress := false } else s.engine e
            | _ => s.engine e)

/-- STREAM KEY and STREAM MOVE. STREAM KEY: NO-STREAM, BAD-FIELD for the key value 0, then the three lines of its table (R22).
STREAM MOVE: its checks in order; with no part of the stream resident the home channel changes at once, else the save of
every resident part begins and the decoder holds the request (R21, R9, R164). -/
def Obligations.StreamKeyAndMoveFollowTheirRules : Prop :=
  (∀ (s : State) (f : Frame), s.takes 0x25 f →
    let b := (byteAt f.payload 0).toNat
    let given := quadAt f.payload 1
    ((∀ n : StreamIx, b = n.val → (s.stream n).state = .free) →
      exec .streamKey s = .next (s.answered f .ordinary .noStream [])) ∧
    ∀ n : StreamIx, b = n.val → (s.stream n).state ≠ .free →
      (given = 0 → exec .streamKey s = .next (s.answered f .ordinary .badField [])) ∧
      (given ≠ 0 → (s.stream n).key = none → exec .streamKey s =
        .next ((s.setStream n { s.stream n with key := some given }).answered f .ordinary .ok [])) ∧
      (given ≠ 0 → (s.stream n).key = some given → exec .streamKey s =
        .next ((s.setStream n { s.stream n with key := none }).answered f .ordinary .ok [])) ∧
      (∀ key, given ≠ 0 → (s.stream n).key = some key → key ≠ given →
        exec .streamKey s = .next (s.answered f .ordinary .keyMismatch []))) ∧
  ∀ (s : State) (f : Frame), s.takes 0x24 f →
    let b := (byteAt f.payload 0).toNat
    let home := (byteAt f.payload 1).toNat
    (∀ n : StreamIx, b = n.val → s.inSwap n = false) →
    (3 < home → exec .streamMove s = .next (s.answered f .ordinary .badField [])) ∧
    (home ≤ 3 → (∀ n : StreamIx, b = n.val → (s.stream n).state = .free) →
      exec .streamMove s = .next (s.answered f .ordinary .noStream [])) ∧
    ∀ (n : StreamIx) (c : ChanIx), b = n.val → home = c.val → (s.stream n).state ≠ .free →
      (∀ key, (s.stream n).key = some key → key ≠ quadAt f.payload 2 →
        exec .streamMove s = .next (s.answered f .ordinary .keyMismatch [])) ∧
      ((∀ key, (s.stream n).key = some key → key = quadAt f.payload 2) → 0 < (s.stream n).inFlight →
        exec .streamMove s = .next (s.answered f .ordinary .busy [])) ∧
      ((∀ key, (s.stream n).key = some key → key = quadAt f.payload 2) → (s.stream n).inFlight = 0 →
        ((∀ e m w k, (s.engine e).part = .resident m w k → m ≠ n) → s.requestSaving = false →
          exec .streamMove s =
            .next ((s.setStream n { s.stream n with home := c }).answered f .ordinary .ok [])) ∧
        (∀ e w k, (s.engine e).state = .bound → (s.engine e).part = .resident n w k →
          ∃ t : State, exec .streamMove s = .next (t.holding f (.move n c)) ∧
            t = { s with engines := t.engines } ∧
            ∀ g, t.engine g =
              match (s.engine g).part with
              | .resident m _ _ => if m = n then { s.engine g with saveInProgress := true } else s.engine g
              | _ => s.engine g))

/-- STREAM QUERY: held while a part of the stream is in a swap save, or a job of the stream is in SAVING; else answered OK with
the entry and the context fields by the first case of R23 that applies. IN-RECORD, the table copies are read while a job of
the stream is in LOADING, RUNNING or HELD, else each part's copy at its owner, resident or in the table; one part or two. A
correctable copy is written back where it stands, an uncorrectable one leaves its part's fields out and sets UNREADABLE,
and no bank takes an arrival (R23, R7, R89).
The model's own, by the assumption log: what the table copy holds during LOADING, log 18. -/
def Obligations.StreamQueryShowsTheEntry : Prop :=
  ∀ (s : State) (f : Frame), s.takes 0x23 f →
    let b := (byteAt f.payload 0).toNat
    (∀ n : StreamIx, b = n.val → s.inSwap n = true → exec .streamQuery s = .next (s.holding f .swapSave)) ∧
    ((∀ n : StreamIx, b = n.val → s.inSwap n = false ∧ (s.stream n).state = .free) →
      exec .streamQuery s = .next (s.answered f .ordinary .noStream [])) ∧
    ∀ n : StreamIx, b = n.val → s.inSwap n = false → (s.stream n).state ≠ .free →
      let x := s.stream n
      let p := x.profile
      let keyed := if x.key = none then 0 else 1
      let inFlight := if s.streamHasJob n (fun st => st == .loading || st == .running || st == .held) then 2 else 0
      let reply (flags : Nat) (primary check : List Byte) :=
        [recordCode x.state, recordCode x.tail, BitVec.ofNat 8 x.home.val] ++ profileBytes p ++
        [BitVec.ofNat 8 flags, BitVec.ofNat 8 x.inFlight] ++ quadBytes x.segments ++ quadBytes x.bytesIn ++
        quadBytes x.bytesOut ++ primary ++ check
      let zeros : List Byte := [0, 0, 0, 0, 0, 0, 0, 0, 0]
      let answer (flags : Nat) (primary check : List Byte) := s.answered f .ordinary .ok (reply flags primary check)
      (s.streamHasJob n (fun st => st == .saving) = true →
        exec .streamQuery s = .next (s.holding f .savingQuery)) ∧
      (s.streamHasJob n (fun st => st == .saving) = false →
        (∀ key, x.key = some key → key ≠ quadAt f.payload 1 →
          exec .streamQuery s = .next (answer (1 + 4) zeros zeros)) ∧
        ((∀ key, x.key = some key → key = quadAt f.payload 1) →
          (x.state = .faulted → exec .streamQuery s = .next (answer keyed zeros zeros)) ∧
          (x.state = .atRest → exec .streamQuery s = .next (answer (keyed + inFlight)
            (0x01 :: partFields (initialPart p .primary))
            (if p.secondary = .check then 0x01 :: partFields (initialPart p .check) else zeros))) ∧
          (x.state = .inRecord → s.keptOnce n →
            let working := inFlight = 2
            let read (w : Which) : Copy := if working then x.copy w else (s.residentCopy n w).getD (x.copy w)
            let field (w : Which) : List Byte :=
              if w ∉ p.parts then zeros
              else if (read w).level = .uncorrectable then 0x02 :: zeros.tail else 0x01 :: partFields (read w).value
            let unreadable := if ∃ w ∈ p.parts, (read w).level = .uncorrectable then 8 else 0
            let table (w : Which) : Copy :=
              if w ∈ p.parts ∧ (working ∨ s.residentCopy n w = none) then (x.copy w).reread else x.copy w
            ∃ t : State, exec .streamQuery s = .next (t.answered f .ordinary .ok
                (reply (keyed + inFlight + unreadable) (field .primary) (field .check))) ∧
              t.stream n = { x with primaryCopy := table .primary, checkCopy := table .check } ∧
              (∀ m, m ≠ n → t.stream m = s.stream m) ∧
              (∀ g, t.engine g =
                match (s.engine g).part with
                | .resident m w k =>
                  if m = n ∧ w ∈ p.parts ∧ ¬ working then { s.engine g with part := .resident m w k.reread }
                  else s.engine g
                | _ => s.engine g) ∧
              t = { s with streams := t.streams, engines := t.engines })))

/-! ### The job and channel requests -/

/-- JOB SUBMIT refuses by the first check that fails, in the order of R50; a refused request changes nothing. Check 7 is R51,
checks 8 to 11, read off the operands other than an AUTO OUT, are R52. -/
def Obligations.JobSubmitRefusesInOrder : Prop :=
  ∀ (s : State) (f : Frame), s.takes 0x30 f →
    let p := f.payload
    let refused (st : Status) := exec .jobSubmit s = .next (s.answered f .ordinary st [])
    (3 < natAt p 0 ∨ 3 < natAt p 2 → refused .badField) ∧
    (natAt p 0 ≤ 3 → natAt p 2 ≤ 3 → (∀ n : StreamIx, natAt p 1 = n.val → (s.stream n).state = .free) →
      refused .noStream) ∧
    ∀ (c : ChanIx) (n : StreamIx) (phase : Phase), natAt p 0 = c.val → natAt p 1 = n.val →
      phaseCode phase = byteAt p 2 → (s.stream n).state ≠ .free →
      let x := s.stream n
      (∀ key, x.key = some key → key ≠ quadAt p 4 → refused .keyMismatch) ∧
      ((∀ key, x.key = some key → key = quadAt p 4) →
        (c ≠ x.home → refused .wrongChannel) ∧
        (c = x.home → x.state = .faulted → refused .streamFaulted) ∧
        (c = x.home → x.state ≠ .faulted → x.tail ≠ phase.needs → refused .phase) ∧
        (c = x.home → x.state ≠ .faulted → x.tail = phase.needs →
          ((∃ i, i < natAt p 12 ∧ (natAt p (13 + 6 * i) = 0 ∨ 4 < natAt p (13 + 6 * i))) → refused .badOperands) ∧
          ∀ ops, operandsOf p = some ops →
            let named := ops.filter (fun op => ¬ op.auto)
            let check7 := x.profile.permits phase ((byteAt p 3).getLsbD 1) ops
            let check8 := ∀ op ∈ named, (s.store.buffer op.handle).state = .allocated
            let check9 := ∀ op ∈ named, op.offset + op.length ≤ (s.store.buffer op.handle).size
            let check10 := ∀ op ∈ named,
              (op.role = .lead ∨ op.role = .data → (s.store.buffer op.handle).outputLocked = false) ∧
                (op.role = .out ∨ op.role = .checkOut → (s.store.buffer op.handle).useCount = 0)
            let check11 := rangesApart named
            (¬ check7 → refused .badOperands) ∧
            (check7 → ¬ check8 → refused .badHandle) ∧
            (check7 → check8 → ¬ check9 → refused .badRange) ∧
            (check7 → check8 → check9 → ¬ check10 → refused .locked) ∧
            (check7 → check8 → check9 → check10 → ¬ check11 → refused .overlap) ∧
            (check7 → check8 → check9 → check10 → check11 → 8 ≤ (s.channel c).queue.length → refused .queueFull) ∧
            (check7 → check8 → check9 → check10 → check11 → (s.channel c).queue.length < 8 →
              (∃ op ∈ ops, op.auto) →
              (∀ h, 1 ≤ h → h ≤ 48 → (s.store.buffer h).state ≠ .free) → refused .noHandle)))

/-- JOB SUBMIT accepted behind a head job: the job record enters the tail of the queue with the next tag, the stream's tail
state and in-flight count follow, each named buffer is held and locked by its roles, and an AUTO buffer is made (R53,
R49, R110).
The model's own, by the assumption log: the fields due, inHand, finalized and wordsRead of log 25 and 27. -/
def Obligations.JobSubmitAcceptsTheJob : Prop :=
  ∀ (s : State) (f : Frame) (c : ChanIx) (n : StreamIx) (phase : Phase) (ops : List Operand) (a : Nat),
    s.submits f c n phase ops a → s.unsettled = false → 1 ≤ (s.channel c).queue.length →
    ∃ t : State,
      exec .jobSubmit s = .next (t.answered f .ordinary .ok (numBytes s.nextTag ++ [BitVec.ofNat 8 a])) ∧
      s.accepts t (s.submitted f c n phase ops a) ops

/-- A JOB SUBMIT to an empty queue: the job is accepted and is the head at once. Where the channel's pins or AVAILABLE engines
supply every kind of its need it enters LOADING with them, a granted engine the lowest-numbered of its kind; where every
engine of a kind it needs is OFFLINE it ends FAILED NO-ENGINE, and its JOB END enters the outbox where a slot is free; else it stays WAITING (R53, R56, R58, R79, R82, R84, R85,
R67, R86, R118, R134). The table copy becomes the checkpoint (R8, R11).
The model's own, by the assumption log: the settling of log 16, the moments in LOADING of log 18 and 46, the ended record of
log 38. -/
def Obligations.SubmittedJobIsGrantedItsEngine : Prop :=
  ∀ (s : State) (f : Frame) (c : ChanIx) (n : StreamIx) (phase : Phase) (ops : List Operand) (a : Nat),
    s.submits f c n phase ops a → s.coherent → s.atRest → (s.channel c).queue = [] →
    let p := (s.stream n).profile
    let j := s.submitted f c n phase ops a
    let waiting : Job := { j with state := .waiting }
    ∃ u t : State, s.accepts u j ops ∧
      exec .jobSubmit s = .next (t.answered f .ordinary .ok (numBytes s.nextTag ++ [BitVec.ofNat 8 a])) ∧
      (∀ e, s.supplies c p.kind e → p.secondary = .none → u.starts t c j e none) ∧
      (∀ e k, s.supplies c p.kind e → p.secondary = .check → s.supplies c .check k → u.starts t c j e (some k)) ∧
      (¬ s.outOfService p.kind → (p.secondary = .check → ¬ s.outOfService .check) →
        ((∀ e, ¬ s.supplies c p.kind e) ∨ p.secondary = .check ∧ ∀ k, ¬ s.supplies c .check k) →
        u.headBecomes t c waiting ∧ t = { u with channels := t.channels }) ∧
      (s.outOfService p.kind ∨ p.secondary = .check ∧ s.outOfService .check →
        ∃ v : State, u.cutTo v c j (j.endedAs .failed .noEngine) ∧ v.follows t)

/-- JOB ABORT: NO-JOB, KEY-MISMATCH and TOO-LATE in that order; the abort mark of a QUEUED job behind an earlier live one of
its stream; the held end cause of a job in LOADING; the ABORTED end, with its cascade, of a job in WAITING, RUNNING or
HELD, and of a QUEUED job with no earlier live job of its stream, wherever it stands; the blocks of an AUTO buffer that
the end frees go to the channels that wait. An ended head claims a slot of the outbox; where one is free its JOB END enters
at once, and the next entry of its channel becomes the head (R56, R65, R67 to R70, R112 to R114, R118, R122).
The model's own, by the assumption log: the settling of log 16, the ended record of log 38 and 48. -/
def Obligations.JobAbortEndsOrMarksTheJob : Prop :=
  ∀ (s : State) (f : Frame), s.takes 0x31 f →
    let tag := (halfAt f.payload 0).toNat
    ((∀ j ∈ s.jobs, j.tag ≠ tag) → exec .jobAbort s = .next (s.answered f .ordinary .noJob [])) ∧
    ∀ j : Job, s.findJob tag = some j →
      let key := (s.stream j.stream).key
      (∀ k, key = some k → k ≠ quadAt f.payload 2 →
        exec .jobAbort s = .next (s.answered f .ordinary .keyMismatch [])) ∧
      ((∀ k, key = some k → k = quadAt f.payload 2) →
        (j.state = .saving ∨ j.state.live = false →
          exec .jobAbort s = .next (s.answered f .ordinary .tooLate [])) ∧
        (∀ first rest, j.state = .queued → s.streamJobs j.channel j.stream = first :: rest → first.tag ≠ tag →
          exec .jobAbort s = .next ((s.modJob j.channel tag (fun j => { j with abortMark := true })).answered f
            .ordinary .ok [])) ∧
        (j.state = .loading → exec .jobAbort s = .next ((s.modJob j.channel tag (fun j => { j with
          heldCause := if j.heldCause = none then some .abort else j.heldCause })).holding f (.abort j.channel))) ∧
        (s.endable j.channel j → j.state = .queued ∨ j.state = .waiting ∨ j.state = .running ∨ j.state = .held →
          ∃ u t : State, s.cutTo u j.channel j (j.endedAs .aborted .none) ∧ u.follows t ∧
            exec .jobAbort s = .next (t.answered f .ordinary .ok [])))

/-- CHANNEL SET writes the report mode; CHANNEL QUERY gives mode, silent count, pins, claim and wait queue flags, the working
head's engines and counts and the queue, and changes nothing; a channel above 3 and an undefined mode give BAD-FIELD
(R72, R74). -/
def Obligations.ChannelSetAndQueryFollowTheirRules : Prop :=
  (∀ (s : State) (f : Frame), s.takes 0x32 f →
    (3 < natAt f.payload 0 ∨ 1 < natAt f.payload 1 →
      exec .channelSet s = .next (s.answered f .ordinary .badField [])) ∧
    ∀ (c : ChanIx) (m : Mode), natAt f.payload 0 = c.val → byteAt f.payload 1 = modeCode m →
      exec .channelSet s = .next ((s.setChannel c { s.channel c with mode := m }).answered f .ordinary .ok [])) ∧
  ∀ (s : State) (f : Frame), s.takes 0x33 f →
    (3 < natAt f.payload 0 → exec .channelQuery s = .next (s.answered f .ordinary .badField [])) ∧
    ∀ c : ChanIx, natAt f.payload 0 = c.val →
      let pin (k : Kind) : Byte := ((s.pinnedEngine c k).map (fun e => BitVec.ofNat 8 e.val)).getD 0xFF
      let claim := if (s.channel c).claim then 1 else 0
      let waits := if c ∈ s.store.waitQueue then 2 else 0
      let modeAndPins :=
        [modeCode (s.channel c).mode, BitVec.ofNat 8 (s.channel c).silent, pin .delta, pin .run, pin .whiten, pin .check]
      let queue := BitVec.ofNat 8 (s.channel c).queue.length :: (s.channel c).queue.flatMap queueEntry
      ((∀ j, s.head c = some j → j.state.working = false) →
        exec .channelQuery s = .next (s.answered f .ordinary .ok
          (modeAndPins ++ [BitVec.ofNat 8 (claim + waits), 0xFF, 0xFF, 0, 0, 0, 0, 0, 0] ++ queue))) ∧
      (∀ j e k, s.head c = some j → j.state.working = true → j.engines = some (e, k) →
        exec .channelQuery s = .next (s.answered f .ordinary .ok
          (modeAndPins ++ [BitVec.ofNat 8 (claim + waits + 4 + (if j.warned then 8 else 0)), BitVec.ofNat 8 e.val,
              (k.map (fun (k : EngineIx) => BitVec.ofNat 8 k.val)).getD 0xFF] ++
            numBytes j.leadFed ++ numBytes j.dataConsumed ++ numBytes j.outWritten ++ queue)))

/-! ### The events of a job -/

/-- LOADING_END where every part is loaded (R7, R11, R59): an initializing phase writes the initial values and reads nothing,
MIDDLE and LAST read for each part the engine's resident copy or else the table copy, a correctable one with a CORRECTED
CONTEXT arrival at the engine's bank; the value is checkpoint and working copy, on one engine or two. With no held end
cause the job and its engines enter RUNNING, a progress event; a held ABORT ends it ABORTED, answered OK, a held LIMIT
FAILED STALLED, a waiting ABORT answered TOO-LATE (R70).
The model's own, by the assumption log: the load of log 17, the ended record of log 38. -/
def Obligations.LoadingEndFormsTheCheckpoint : Prop :=
  ∀ (s : State) (c : ChanIx) (j : Job), s.loads c j → s.readable j j.workers →
    let arrived := s.loadArrivals j j.workers
    (s.tagsUnique → s.unsettled = false → j.heldCause = none → ∃ t : State, exec (.loadingEnd c) s = .next t ∧
      arrived.headBecomes t c { j with state := .running } ∧
      (∀ g, t.engine g =
        match j.workers.find? (fun ew => ew.1 == g) with
        | some ew => { arrived.engine g with
            state := .running, part := .working j.stream ew.2 (s.loadedValue j ew) }
        | none => arrived.engine g) ∧
      t.stream j.stream = s.checkpointed j j.workers ∧ (∀ m, m ≠ j.stream → t.stream m = s.stream m) ∧
      s.progressed t c ∧
      t = { arrived with channels := t.channels, engines := t.engines, streams := t.streams, watches := t.watches }) ∧
    (s.cuttable c j →
      let formed := arrived.setStream j.stream (s.checkpointed j j.workers)
      (j.heldCause = some .abort → ∃ t : State, exec (.loadingEnd c) s = .next (t.abortAnswered c .ok) ∧
        formed.cutTo t c j (j.endedAs .aborted .none)) ∧
      (j.heldCause = some .limit → ∃ t : State, exec (.loadingEnd c) s = .next (t.abortAnswered c .tooLate) ∧
        formed.cutTo t c j (j.endedAs .failed .stalled)))

/-- LOADING_END where a read finds a copy uncorrectable (R7, R11, R14, R59): the parts before it are loaded, the loss is one
UNCORRECTED CONTEXT arrival at its engine's bank, the stream becomes FAULTED with its parts lost, and the job ends FAILED
CONTEXT-ERROR with STREAM-FAULTED set, whatever end cause is held, the later jobs of the stream CANCELLED STREAM-FAULTED;
an ABORT that waits is answered TOO-LATE (R65, R66, R70).
The model's own, by the assumption log: the load of log 17, the lost copies of log 21, the ended record of log 38. -/
def Obligations.LoadingEndFindsTheLoss : Prop :=
  ∀ (s : State) (c : ChanIx) (j : Job) (before rest : List (EngineIx × Which)) (e : EngineIx) (w : Which),
    s.loads c j → s.cuttable c j → j.workers = before ++ (e, w) :: rest → s.readable j before →
    j.phase = .middle ∨ j.phase = .last → (s.sourceCopy j (e, w)).level = .uncorrectable →
    (s.stream j.stream).state = .inRecord →
    (∀ g v k, (s.engine g).part = .resident j.stream v k → g ∈ j.workers.map (·.1)) →
    ∃ u t : State, exec (.loadingEnd c) s = .next (t.abortAnswered c .tooLate) ∧
      ((s.loadArrivals j before).arrive (engineBank e) (contextRead .uncorrected j)).faults u j.stream ∧
      u.cutTo t c j { j.endedAs .failed .contextError with streamFaulted := true }

/-- A byte step that reads an input byte (R26, R27, R28, R40, R45, R115). The word is read through the code once, at its first
needed byte: a correctable word is written back clean with one CORRECTED BLOCK-DATA arrival at the bank of the engine
that feeds the byte, an uncorrectable one is one UNCORRECTED arrival and ends the job FAILED DATA-ERROR, the byte not fed.
A DATA byte is consumed by the primary, its output becomes due, and under tap INPUT the secondary CHECK is fed it; the
working copy is stepped now where nothing is to be written, else with the last of its bytes (R29, R30, R33, R34). A
PREFIX byte goes before any DATA to the CHECK part alone, of a primary or a secondary CHECK.
The model's own, by the assumption log: the words read of log 25, the due bytes and the byte in hand of log 27, the ended record
of log 38. -/
def Obligations.ByteStepReadsTheInput : Prop :=
  ∀ (s : State) (c : ChanIx) (j : Job) (e : EngineIx) (op : Operand) (o : Nat), s.tagsUnique → s.head c = some j →
    j.state = .running → j.due = [] → (j.workers.map (·.1)).Nodup →
    let p := (s.stream j.stream).profile
    let h := op.handle
    let x := s.store.readAt h o
    let word := (e, h, o / 8)
    let level := if word ∈ j.wordsRead then ErrLevel.clean else s.store.levelOf h o
    let arrival (v : Severity) : FaultRecord :=
      { severity := v, kind := .blockData, site := some (.block h (8 * (o / 8))), tag := some j.tag }
    let cleaned := s.setStore (s.store.setLevel (((s.store.buffer h).address o).getD 0 / 8) .clean)
    let read := if level = .correctable then cleaned.arrive (engineBank e) (arrival .corrected) else s
    let noted := if word ∈ j.wordsRead then j.wordsRead else word :: j.wordsRead
    let stepped (j' : Job) (engine : EngineIx → Engine) : Prop := ∃ t : State, exec (.byteStep c) s = .next t ∧
      read.headBecomes t c j' ∧ (∀ g, t.engine g = engine g) ∧ s.progressed t c ∧
      t = { read with channels := t.channels, engines := t.engines, watches := t.watches }
    let failed := level = .uncorrectable → s.cuttable c j → ∃ t : State, exec (.byteStep c) s = .next t ∧
      (s.arrive (engineBank e) (arrival .uncorrected)).cutTo t c j (j.endedAs .failed .dataError)
    (∀ k second n w v, j.nextLead = none → j.nextData = some (op, k) → o = op.offset + k →
      j.engines = some (e, second) → (s.engine e).part = .working n w v →
      (level ≠ .uncorrectable →
        let out := (consumeByte p v x).2
        stepped { j with
            dataConsumed := j.dataConsumed + 1, due := out, inHand := if out = [] then none else some x
            wordsRead := noted }
          (fun g => if g = e then
              { read.engine e with part := .working n w (if out = [] then (consumeByte p v x).1 else v) }
            else read.tapped j .input x g)) ∧ failed) ∧
    ∀ n w remainder count, j.nextLead = some op → o = op.offset + j.leadFed →
      (p.kind = .check ∧ (∃ second, j.engines = some (e, second)) ∨
        p.kind ≠ .check ∧ ∃ first, j.engines = some (first, some e)) →
      (s.engine e).part = .working n w (.check remainder count) →
      (level ≠ .uncorrectable →
        stepped { j with leadFed := j.leadFed + 1, wordsRead := noted }
          (fun g => if g = e then
              { read.engine e with part := .working n w (.check (crcByte p.variant remainder x) (count + 1)) }
            else read.engine g)) ∧ failed

/-- A byte step that writes to an explicit OUT (R26, R31, R34, R35, R43, R45, R98): a due byte, or the first byte of the primary's
finalize step once everything is fed and written in a final phase, goes to the offset plus the bytes written; the word
there is clean, the other bytes of a word that was uncorrectable become 00H, every other byte stays; under tap OUTPUT the
secondary CHECK is fed it, and a DELTA's finalize byte sets ODD-TAIL. With the last byte due the primary's working copy is
stepped by the DATA byte in hand, a flushed run removed, or returns to its initial value (R29, R30, R33, R37). At the OUT's
length the job ends FAILED OUT-FULL and nothing is written.
The model's own, by the assumption log: the finalize step of log 26, the due bytes and the byte in hand of log 27, the ended
record of log 38 and 48. -/
def Obligations.ByteStepWritesOut : Prop :=
  ∀ (s : State) (c : ChanIx) (j j' : Job) (op : Operand) (x : Byte) (rest : List Byte), s.tagsUnique →
    s.head c = some j → j.state = .running → s.nextOut j j' x rest → j.outOperand = some op → j.autoHandle = 0 →
    (j.outWritten = op.length → s.cuttable c j →
      ∃ t : State, exec (.byteStep c) s = .next t ∧ s.cutTo t c j (j'.endedAs .failed .outFull)) ∧
    ∀ a : Nat, j.outWritten < op.length → (s.store.buffer op.handle).address (op.offset + j.outWritten) = some a →
      a < 32768 → s.store.canonical →
      ∃ t : State, exec (.byteStep c) s = .next t ∧
        s.headBecomes t c (j'.wrote (s.stream j.stream).profile rest) ∧ (∀ g, t.engine g = s.wroteOut j' x rest g) ∧
        (∀ q, t.store.byteAt q =
          if q = a then x
          else if q / 8 = a / 8 ∧ s.store.levelAt (a / 8) = .uncorrectable then 0
          else s.store.byteAt q) ∧
        (∀ q, t.store.levelAt q = if q = a / 8 then .clean else s.store.levelAt q) ∧
        t.store = { s.store with mem := t.store.mem, levels := t.store.levels } ∧ s.progressed t c ∧
        t = { s with channels := t.channels, engines := t.engines, store := t.store, watches := t.watches }

/-- A byte step that writes to an AUTO OUT (R26, R34, R44, R111, R45): at a block boundary with a free block the buffer grows by
the lowest-numbered free block, cleared, the reserve not kept back; the byte is written there, or within the last block,
and the size follows; the last byte due steps the primary's working copy. With no block free the job and its primary engine
go HELD and the channel joins the tail of the block wait queue, a progress event. At the maximum the job ends FAILED OUT-FULL and the buffer is freed.
The model's own, by the assumption log: the finalize step of log 26, the due bytes and the byte in hand of log 27, the ended
record of log 38 and 48. -/
def Obligations.ByteStepGrowsTheAutoBuffer : Prop :=
  ∀ (s : State) (c : ChanIx) (j j' : Job) (op : Operand) (x : Byte) (rest : List Byte), s.tagsUnique →
    s.head c = some j → j.state = .running → s.nextOut j j' x rest → j.outOperand = some op →
    j.autoHandle = op.handle → j.autoHandle ≠ 0 → op.offset = 0 →
    let b := s.store.buffer op.handle
    let wrote (t : State) := s.headBecomes t c (j'.wrote (s.stream j.stream).profile rest) ∧
      (∀ g, t.engine g = s.wroteOut j' x rest g) ∧ (∀ h, h ≠ op.handle → t.store.buffer h = s.store.buffer h) ∧
      t.store = { s.store with
        mem := t.store.mem, levels := t.store.levels, handles := t.store.handles, freeCount := t.store.freeCount } ∧
      s.progressed t c ∧
      t = { s with channels := t.channels, engines := t.engines, store := t.store, watches := t.watches }
    (j.outWritten = j.outRoom op → s.cuttable c j →
      ∃ t : State, exec (.byteStep c) s = .next t ∧ s.cutTo t c j (j'.endedAs .failed .outFull)) ∧
    (j.outWritten < j.outRoom op → b.state = .pending → s.store.blocksCounted → s.store.canonical →
      (j.outWritten % 64 = 0 → j.outWritten = 64 * b.blocks.length → 0 < s.store.freeCount →
        ∃ (t : State) (blk : Nat), exec (.byteStep c) s = .next t ∧ wrote t ∧ blk < 512 ∧
          blk ∉ s.store.heldBlocks ∧ (∀ k, k < blk → k ∈ s.store.heldBlocks) ∧
          t.store.buffer op.handle = { b with blocks := b.blocks ++ [blk], size := j.outWritten + 1 } ∧
          t.store.freeCount = s.store.freeCount - 1 ∧ t.store.byteAt (64 * blk) = x ∧
          (∀ o, 1 ≤ o → o < 64 → t.store.byteAt (64 * blk + o) = 0) ∧
          (∀ q, q / 64 ≠ blk → t.store.byteAt q = s.store.byteAt q) ∧
          ∀ q, t.store.levelAt q = if q / 8 = blk then .clean else s.store.levelAt q) ∧
      (j.outWritten % 64 = 0 → s.store.freeCount = 0 → ∃ t : State, exec (.byteStep c) s = .next t ∧
        s.headBecomes t c { j' with state := .held, due := x :: rest } ∧
        (∀ g, t.engine g = if j.engines.map (·.1) = some g then { s.engine g with state := .held } else s.engine g) ∧
        t.store = { s.store with waitQueue := s.store.waitQueue ++ [c] } ∧ s.progressed t c ∧
        t = { s with channels := t.channels, engines := t.engines, store := t.store, watches := t.watches }) ∧
      (∀ a, j.outWritten % 64 ≠ 0 → b.address j.outWritten = some a → s.store.levelAt (a / 8) ≠ .uncorrectable →
        ∃ t : State, exec (.byteStep c) s = .next t ∧ wrote t ∧
          t.store.buffer op.handle = { b with size := j.outWritten + 1 } ∧ t.store.freeCount = s.store.freeCount ∧
          (∀ q, t.store.byteAt q = if q = a then x else s.store.byteAt q) ∧
          ∀ q, t.store.levelAt q = if q = a / 8 then .clean else s.store.levelAt q))

/-- TRANSFORM_WORK_END, every byte fed and written (R25, R41, R42, R46, R61, R79): a final phase forms the check value of a
primary or secondary CHECK, writes it to CHECK-OUT where there is one, keeps and verifies it, and sets every working copy
to its initial value; a non-final phase leaves them. With a dynamic engine the job and all its engines enter SAVING, a
progress event; with every engine pinned the job ends DONE at once, its parts resident, its JOB END or silent removal and
the next entry of its channel as at SAVING_END (R12, R56, R67, R80, R118, R122).
The model's own, by the assumption log: the settling of log 16, the field due of log 27, the ended record of log 38. -/
def Obligations.TransformWorkEndEntersSaving : Prop :=
  ∀ (s : State) (c : ChanIx) (j : Job) (e : EngineIx) (k : Option EngineIx) (v : PartValue) (g : EngineIx)
    (n : StreamIx) (w : Which) (remainder count : Quad), s.tagsUnique → s.head c = some j → j.state = .running →
    j.due = [] → j.nextLead = none → j.nextData = none → j.engines = some (e, k) → (j.workers.map (·.1)).Nodup →
    (s.engine e).part = .working j.stream .primary v →
    let p := (s.stream j.stream).profile
    let final : Prop := j.phase = .whole ∨ j.phase = .last
    let hasCheck : Prop := p.kind = .check ∨ p.secondary = .check
    (final → j.finalized = true ∨ finalizeBytes p v = []) →
    (hasCheck → (if p.kind = .check then g = e else k = some g) ∧
      (s.engine g).part = .working n w (.check remainder count)) →
    let value : Quad :=
      match p.variant with
      | .crc16 => (remainder.setWidth 16 ^^^ p.crcXorout).setWidth 32
      | .crc32 => remainder ^^^ 0xFFFFFFFF
    let bytes : List Byte :=
      match p.variant with
      | .crc16 => [value.setWidth 8, (value >>> 8).setWidth 8]
      | .crc32 => [value.setWidth 8, (value >>> 8).setWidth 8, (value >>> 16).setWidth 8, (value >>> 24).setWidth 8]
    let verify : Verify :=
      match j.expect, p.variant with
      | none, _ => .none
      | some x, .crc16 => if x.setWidth 16 = value.setWidth 16 then .isMatch else .mismatch
      | some x, .crc32 => if x = value then .isMatch else .mismatch
    let j' : Job := if final ∧ hasCheck then { j with checkValue := some value, verify := verify } else j
    ∃ worked t : State, exec (.transformWorkEnd c) s = .next t ∧
      (∀ f, worked.engine f =
        match j.workers.find? (fun ew => ew.1 == f) with
        | some ew => if final then { s.engine f with part := .working j.stream ew.2 (initialPart p ew.2) }
          else s.engine f
        | none => s.engine f) ∧
      worked.store = (if final ∧ hasCheck then
        match j.checkOutOperand with
        | some op => s.store.writeBytes op.handle op.offset bytes
        | none => s.store
        else s.store) ∧
      worked = { s with engines := worked.engines, store := worked.store } ∧
      ((∃ ew ∈ j.workers, ∀ d, (s.engine ew.1).binding ≠ .pinned d) →
        worked.headBecomes t c { j' with state := .saving } ∧
        (∀ f, t.engine f =
          if f ∈ j.workers.map (·.1) then { worked.engine f with state := .saving } else worked.engine f) ∧
        worked.progressed t c ∧
        t = { worked with channels := t.channels, engines := t.engines, watches := t.watches }) ∧
      ((∀ ew ∈ j.workers, ∃ d, (s.engine ew.1).binding = .pinned d) → s.finishable c j →
        ∃ u : State, worked.doneTo u c j (j'.endedAs .done .none) ∧ u.follows t)

/-- SAVING_END: the job ends DONE (R12, R16, R62, R67, R69, R73, R80, R114). Dynamic engines write their working copies to the
table and go to SCRUB, a pinned one keeps its copy resident, one with offline due writes it and goes OFFLINE; record
state, totals, counts and buffers follow, an AUTO buffer kept; the abort mark of the next job of the stream takes effect
with its cascade; in MARKED mode an unmarked job without MISMATCH is removed silently, any other claims a slot. Where one is
free its JOB END enters at once: the job leaves its queue, the silent count becomes 0 and the job end pointer moves past the
channel. The next entry becomes the head: QUEUED, it enters WAITING, with its NO-ENGINE test and its allocation attempt;
already ended, it is removed silently or claims in its turn (R56, R58, R83, R86, R118, R122). A STREAM QUERY held behind
SAVING, or a request held behind a swap save, is taken against the state after the end (R23, R89).
The model's own, by the assumption log: the arbiter of log 15, the settling of log 16, the retaking of log 24, the ended
record of log 38, the moment of the table write of log 44. -/
def Obligations.SavingEndEndsTheJobDone : Prop :=
  ∀ (s : State) (c : ChanIx) (j : Job), s.finishable c j → j.state = .saving →
    ((∀ f d, s.decoder ≠ .busy f .savingQuery d ∧ s.decoder ≠ .busy f .swapSave d) →
      ∃ u t : State, s.doneTo u c j (j.endedAs .done .none) ∧ u.follows t ∧ exec (.savingEnd c) s = .next t) ∧
    ∀ (f : Frame) (i : Instr), f.holdable i →
      (s.decoder = .busy f .savingQuery false ∧ i = .streamQuery ∨ s.decoder = .busy f .swapSave false) →
      ∃ u v t : State, s.doneTo u c j (j.endedAs .done .none) ∧ exec i (u.requeued f) = .next v ∧ v.follows t ∧
        exec (.savingEnd c) s = .next t

/-- The self-check of an engine of a job: an INTERNAL arrival at its bank, which gives the offline trigger, and the job ends
FAILED ENGINE-FAULT, with its cascade, its context the checkpoint, its record state as it was (R2, R13, R79, R96, R145). In
LOADING the parts up to the engine's own have been loaded, and the fault ends the work: a part after it is not read,
whatever its copy holds, and no loss of it is found (R11, R57, R59). Where one of the parts up to it is uncorrectable the
engine holds no working copy to check, and nothing happens. A JOB ABORT that waits is answered TOO-LATE (R70).
The model's own, by the assumption log: the LOADING case of log 20, the ended record of log 38 and 48. -/
def Obligations.EngineSelfCheckFaultEndsTheJob : Prop :=
  ∀ (s : State) (c : ChanIx) (j : Job) (e : EngineIx) (w : Which), s.cuttable c j → (e, w) ∈ j.workers →
    let fault (u : State) : State :=
      u.arrive (engineBank e) { severity := .uncorrected, kind := .internal, site := none, tag := some j.tag }
    (j.state = .running ∨ j.state = .held → ∃ t : State, exec (.engineSelfCheckFault e) s = .next t ∧
      (fault s).cutTo t c j (j.endedAs .failed .engineFault)) ∧
    (s.loads c j → (∀ f d, s.decoder ≠ .busy f .savingQuery d ∧ s.decoder ≠ .busy f .swapSave d) →
      ∀ before after, j.workers = before ++ (e, w) :: after →
        let loaded := before ++ [(e, w)]
        (s.readable j loaded → ∃ t : State,
          exec (.engineSelfCheckFault e) s = .next (t.abortAnswered c .tooLate) ∧
          (fault ((s.loadArrivals j loaded).setStream j.stream (s.checkpointed j loaded))).cutTo t c j
            (j.endedAs .failed .engineFault)) ∧
        (¬ s.readable j loaded → exec (.engineSelfCheckFault e) s = .next s))

/-- An error that an engine finds at the moment at which its job has ended otherwise than DONE is still taken by its bank, in
either order (R138, R145, R146): after a LIMIT expiry, or an end by the self-check, a fault of a working copy that an
engine of the job held is an INTERNAL arrival, and the read of the input word that was due gives its CORRECTED or
UNCORRECTED arrival, a correctable word written back clean: at the primary engine's bank for DATA, and for PREFIX at the
bank of the engine that works the CHECK part, the check engine of a secondary CHECK (R115). The trigger sets offline due, and an OFFLINE engine has none.
The model's own, by the assumption log: the findings that stay open, log 43. -/
def Obligations.FindingsOfTheMomentStillArrive : Prop :=
  ∀ (s t : State) (c : ChanIx) (j : Job) (i : Instr), s.coherent → s.late = [] → s.head c = some j →
    j.state = .running ∨ j.state = .held →
    (i = .limitExpiry c ∧ (∃ ms, (s.watch c).timer = some ms) ∧ (s.watch c).limit ≠ 0 ∨
      ∃ g ∈ j.workers.map (·.1), i = .engineSelfCheckFault g) → exec i s = .next t →
    let taken (e : EngineIx) (arrived u : State) : Prop :=
      (∀ g, u.engine g = if g = e ∧ (t.engine e).state = .offline then { arrived.engine g with offlineDue := false }
        else arrived.engine g) ∧
      u = { arrived with engines := u.engines, late := u.late }
    (∀ e ∈ j.workers.map (·.1), i ≠ .engineSelfCheckFault e → ∃ u, exec (.engineSelfCheckFault e) t = .next u ∧
      taken e (t.arrive (engineBank e) { severity := .uncorrected, kind := .internal, site := none, tag := some j.tag })
        u) ∧
    ∀ (e : EngineIx) (op : Operand) (o : Nat), j.state = .running → j.due = [] →
      ((∃ k second, j.nextLead = none ∧ j.nextData = some (op, k) ∧ o = op.offset + k ∧ j.engines = some (e, second)) ∨
        j.nextLead = some op ∧ o = op.offset + j.leadFed ∧
          ((s.stream j.stream).profile.kind = .check ∧ (∃ second, j.engines = some (e, second)) ∨
            (s.stream j.stream).profile.kind ≠ .check ∧ ∃ first, j.engines = some (first, some e))) →
      (e, op.handle, o / 8) ∉ j.wordsRead →
      let cleaned := t.setStore (t.store.setLevel (((t.store.buffer op.handle).address o).getD 0 / 8) .clean)
      let arrival (v : Severity) : FaultRecord :=
        { severity := v, kind := .blockData, site := some (.block op.handle (8 * (o / 8))), tag := some j.tag }
      (t.store.levelOf op.handle o = .correctable → ∃ u, exec (.byteStep c) t = .next u ∧
        taken e (cleaned.arrive (engineBank e) (arrival .corrected)) u) ∧
      (t.store.levelOf op.handle o = .uncorrectable → ∃ u, exec (.byteStep c) t = .next u ∧
        taken e (t.arrive (engineBank e) (arrival .uncorrected)) u)

/-! ### The stall watch -/

/-- WARN_EXPIRY, no earlier than WARN after the timer's start: WARN taken and the job's WARNED are set and the notice is
pending, to enter the outbox at once where a slot is free, with the tag, job state and elapsed time (R136, R121).
LIMIT_EXPIRY, no earlier than LIMIT: the timer stops; in LOADING the expiry becomes the held end cause unless one is
held, in SAVING nothing else happens, in RUNNING and HELD the job ends FAILED STALLED, with its cascade, and the blocks of
its AUTO buffer go to the channels that wait; where a slot of the outbox is free its JOB END enters at once, and the next
entry of the channel becomes the head (R137, R56, R67, R112 to R114, R118, R122).
The model's own, by the assumption log: the settling of log 16, the ended record of log 38 and 48. -/
def Obligations.WarnAndLimitExpiryFollowTheirRules : Prop :=
  (∀ (s : State) (c : ChanIx) (j : Job) (ms : Nat), s.tagsUnique → s.head c = some j →
    (s.watch c).timer = some ms → (s.watch c).warn ≠ 0 → (s.watch c).warn ≤ ms → (s.watch c).warnTaken = false →
    let r := s.reports
    let notice : WatchInfo := { channel := c, tag := j.tag, jobState := j.state
                                elapsed := min ((s.watch c).clock.getD 0) 65535 }
    ∃ t : State, exec (.warnExpiry c) s = .next t ∧
      (r.outbox.length = 16 ∨ s.firstClaim = none →
        s.headBecomes t c { j with warned := true } ∧ t.watch c = { s.watch c with warnTaken := true } ∧
        (∀ d, d ≠ c → t.watch d = s.watch d) ∧
        t = { s with channels := t.channels, watches := t.watches, reports := t.reports }) ∧
      (r.outbox.length = 16 → t.reports = { r with watchPending := r.watchPending.set c (some j.tag) }) ∧
      (r.outbox.length < 16 → s.firstClaim = none → t.reports = { r with
        outbox := r.outbox ++ [{ number := r.nextNumber, body := .watchNotice notice
                                 sendDue := s.link.state == .opened }]
        nextNumber := r.nextNumber + 1
        retryTimer := if r.outbox = [] then
          (if s.link.state = .opened ∧ r.retryPeriod ≠ 0 then some 0 else none) else r.retryTimer })) ∧
  ∀ (s : State) (c : ChanIx) (j : Job) (ms : Nat), s.tagsUnique → s.head c = some j → (s.watch c).timer = some ms →
    (s.watch c).limit ≠ 0 → (s.watch c).limit ≤ ms →
    let stopped := s.setWatch c { s.watch c with timer := none }
    (j.state = .loading → ∃ t : State, exec (.limitExpiry c) s = .next t ∧
      stopped.headBecomes t c { j with heldCause := if j.heldCause = none then some .limit else j.heldCause } ∧
      t = { stopped with channels := t.channels }) ∧
    (j.state = .saving → exec (.limitExpiry c) s = .next stopped) ∧
    (j.state = .running ∨ j.state = .held → s.endable c j → ∃ u t : State,
      s.cutTo u c j (j.endedAs .failed .stalled) ∧ u.follows t ∧ exec (.limitExpiry c) s = .next t)

/-! ### Engines and saves -/

/-- ENGINE PIN and ENGINE UNPIN: the checks in order, the engine BOUND, pinned and empty, and the pin removed into SCRUB, or
OFFLINE where offline is due, after the save of a resident part (R91, R92, R90). The allocation attempt that follows
starts the WAITING jobs that the engines now supply, in the order of the walk (R83 to R85).
The model's own, by the assumption log: the settling of log 16, the moments in LOADING of log 18 and 46. -/
def Obligations.EnginePinAndUnpinFollowTheirRules : Prop :=
  ∀ (s : State) (f : Frame),
    let idle (st : EngineState) (b : Binding) : Engine :=
      { state := st, binding := b, part := .none, job := none, saveInProgress := false, offlineDue := false }
    let e := natAt f.payload 0
    (s.takes 0x38 f →
      (5 < e ∨ 3 < natAt f.payload 1 → exec .enginePin s = .next (s.answered f .ordinary .badField [])) ∧
      ∀ (g : EngineIx) (c : ChanIx), e = g.val → natAt f.payload 1 = c.val →
        ((s.engine g).state ≠ .available →
          exec .enginePin s = .next (s.answered f .ordinary .engineState [])) ∧
        ((s.engine g).state = .available →
          (∃ k, (s.engine k).binding = .pinned c ∧ engineKind k = engineKind g) →
          exec .enginePin s = .next (s.answered f .ordinary .pinnedKind [])) ∧
        ((s.engine g).state = .available →
          (∀ k, engineKind k = engineKind g → (s.engine k).binding ≠ .pinned c) → s.allocatable →
          ∃ t : State, (s.setEngine g (idle .bound (.pinned c))).attempts t ∧
            exec .enginePin s = .next (t.answered f .ordinary .ok []))) ∧
    (s.takes 0x39 f →
      (5 < e → exec .engineUnpin s = .next (s.answered f .ordinary .badField [])) ∧
      ∀ g : EngineIx, e = g.val →
        ((s.engine g).state ≠ .bound → exec .engineUnpin s = .next (s.answered f .ordinary .engineState [])) ∧
        ((s.engine g).state = .bound →
          (∀ n w k, (s.engine g).part = .resident n w k → exec .engineUnpin s =
            .next ((s.setEngine g { s.engine g with saveInProgress := true }).holding f (.unpin g))) ∧
          ((s.engine g).part = .none → s.allocatable → s.unsettled = false →
            let left := s.setEngine g (idle (if (s.engine g).offlineDue then .offline else .scrub) .none)
            left.served → ∃ t : State, left.attempts t ∧
              exec .engineUnpin s = .next (t.answered f .ordinary .ok []))))

/-- ENGINE OFFLINE, ENGINE RESTORE, ENGINE QUERY and the scrub completion: OFFLINE at once, after a save, or refused, by the
engine's state; RESTORE clears the uncorrected count and scrubs; QUERY gives the record and changes nothing; a scrub ends
AVAILABLE, or BOUND where pinned (R93, R94, R95, R81). The allocation attempt that follows starts the WAITING jobs that the
engines now supply, in the order of the walk (R83 to R85). Where the last engine of a kind goes OFFLINE, a WAITING head job
that needs the kind ends FAILED NO-ENGINE, with its cascade (R86, R65).
The model's own, by the assumption log: the settling of log 16; the moments in LOADING of log 18 and 46; an engine with
offline due in SCRUB goes OFFLINE at its completion, log 47; the ended record of log 38. -/
def Obligations.EngineOfflineRestoreAndScrubFollowTheirRules : Prop :=
  ∀ (s : State) (f : Frame) (g : EngineIx),
    let idle (st : EngineState) : Engine :=
      { state := st, binding := .none, part := .none, job := none, saveInProgress := false, offlineDue := false }
    let en := s.engine g
    let given := natAt f.payload 0
    (∀ c k, (c = .engineOffline ∧ k = 0x3A ∨ c = .engineRestore ∧ k = 0x3B ∨ c = .engineQuery ∧ k = 0x3C) →
      s.takes k f → 5 < given → exec c s = .next (s.answered f .ordinary .badField [])) ∧
    (s.takes 0x3A f → given = g.val →
      (s.allocatable → s.unsettled = false → en.state = .available ∨ en.state = .bound ∧ en.part = .none →
        let left := s.setEngine g (idle .offline)
        left.served → ∃ t : State, left.attempts t ∧ exec .engineOffline s = .next (t.answered f .ordinary .ok [])) ∧
      (∀ c j, s.cuttable c j → s.headIn c .waiting = some j →
        (engineKind g = (s.stream j.stream).profile.kind ∨
          (s.stream j.stream).profile.secondary = .check ∧ engineKind g = .check) →
        (∀ e, e ≠ g → engineKind e = engineKind g → (s.engine e).state = .offline) →
        en.state = .available ∨ en.state = .bound ∧ en.part = .none →
        ∃ t : State, exec .engineOffline s = .next (t.answered f .ordinary .ok []) ∧
          (s.setEngine g (idle .offline)).cutTo t c j (j.endedAs .failed .noEngine)) ∧
      (∀ n w k, en.state = .bound → en.part = .resident n w k → exec .engineOffline s =
        .next ((s.setEngine g { en with saveInProgress := true }).holding f (.offline g))) ∧
      (en.state = .offline → exec .engineOffline s = .next (s.answered f .ordinary .ok [])) ∧
      (en.state ∈ [.loading, .running, .held, .saving, .scrub] →
        exec .engineOffline s = .next (s.answered f .ordinary .engineState []))) ∧
    (s.takes 0x3B f → given = g.val →
      (en.state ≠ .offline → exec .engineRestore s = .next (s.answered f .ordinary .engineState [])) ∧
      (en.state = .offline → exec .engineRestore s = .next
        (((s.setBank (engineBank g) { s.bank (engineBank g) with uncorrected := 0 }).setEngine g
          (idle .scrub)).answered f .ordinary .ok []))) ∧
    (s.takes 0x3C f → given = g.val → exec .engineQuery s = .next (s.answered f .ordinary .ok
      ([BitVec.ofNat 8 g.val, kindCode (engineKind g), engineStateCode en.state] ++
        (match en.binding with
         | .none => [0x00, 0xFF]
         | .dynamic c => [0x01, BitVec.ofNat 8 c.val]
         | .pinned c => [0x02, BitVec.ofNat 8 c.val]) ++
        (match en.part with
         | .none => [0x00, 0x00, 0x00]
         | .working n w _ => [0x01, BitVec.ofNat 8 n.val, whichCode w]
         | .resident n w _ => [0x02, BitVec.ofNat 8 n.val, whichCode w]) ++
        numBytes (en.job.getD 0) ++
        [BitVec.ofNat 8 ((if en.saveInProgress then 1 else 0) + (if en.offlineDue then 2 else 0)),
          BitVec.ofNat 8 (s.bank (engineBank g)).uncorrected]))) ∧
    (en.state = .scrub → s.allocatable →
      let later := s.setLate (s.late.filter (fun l => decide (l.engine ≠ g)))
      let left (en' : Engine) := later.setEngine g en'
      (en.offlineDue = true → s.unsettled = false → (left (idle .offline)).served →
        ∃ t : State, (left (idle .offline)).attempts t ∧ exec (.scrubCompletion g) s = .next t) ∧
      (∀ c, en.offlineDue = false → en.binding = .pinned c →
        ∃ t : State, (left { en with state := .bound }).attempts t ∧ exec (.scrubCompletion g) s = .next t) ∧
      (en.offlineDue = false → (∀ c, en.binding ≠ .pinned c) →
        ∃ t : State, (left { en with state := .available }).attempts t ∧ exec (.scrubCompletion g) s = .next t))

/-- SAVE_END of either part (R9, R7, R14, R21, R66, R89, R92, R93, R96): for a stream AT-REST the initial value is written, for
one IN-RECORD the resident copy, read with a CORRECTED arrival where it was correctable; the engine holds no part. For an
UNPIN the pin goes, into SCRUB or OFFLINE, for an OFFLINE the engine goes OFFLINE, for a STREAM MOVE it stays BOUND, and
with no save left the home channel changes; then the reply is built, and the allocation attempt starts the WAITING jobs
that the engines now supply (R83). A swap save leaves the engine in LOADING, and a request held behind it is then taken
against that state. A loss is one UNCORRECTED arrival and makes the stream FAULTED, its live jobs CANCELLED
STREAM-FAULTED, and drops every resident part of the stream, whose engines hold no part and save none (R10, R90): a request
that waits for the save of such a part too, a STREAM MOVE of two parts or an UNPIN or OFFLINE, completes with it.
The model's own, by the assumption log: the settling of log 16, the moments in LOADING of log 18 and 46, the lost copies of
log 21, the dropped saves of log 23, the retaking of log 24, the moment of the read of log 45, the ended record of log 38. -/
def Obligations.SaveEndWritesTheTableCopy : Prop :=
  ∀ (s : State) (e : EngineIx) (n : StreamIx) (w : Which) (k : Copy), s.unsettled = false →
    (s.engine e).saveInProgress = true → (s.engine e).part = .resident n w k → s.allocatable →
    let x := s.stream n
    let en := s.engine e
    let idle (u : State) (g : EngineIx) (st : EngineState) : State := u.setEngine g
      { state := st, binding := .none, part := .none, job := none, saveInProgress := false, offlineDue := false }
    let emptied (u : State) : State := u.setEngine e { u.engine e with part := .none, saveInProgress := false }
    let arrived (v : Severity) : State :=
      s.arrive (engineBank e) { severity := v, kind := .context, site := some (.stream n), tag := en.job }
    let read := if x.state = .inRecord ∧ k.level = .correctable then arrived .corrected else s
    let copy : Copy := { value := if x.state = .atRest then initialPart x.profile w else k.value, level := .clean }
    let saved := read.setStream n
      (match w with | .primary => { x with primaryCopy := copy } | .check => { x with checkCopy := copy })
    let lost := arrived .uncorrected
    let moved (u : State) (m : StreamIx) (c : ChanIx) : State := u.setStream m { u.stream m with home := c }
    let noRequestSaving (u : State) := ∀ g, ¬ ((u.engine g).state = .bound ∧ (u.engine g).saveInProgress = true)
    let allots (u : State) (answer : State → State) : Prop :=
      u.served → ∃ t : State, u.attempts t ∧ exec (.saveEnd e) s = .next (answer t)
    let goesOn (u : State) : Prop :=
      let left := if en.state = .bound ∧ (u.engine e).offlineDue then idle u e .offline else u
      (en.state = .bound ∨ en.state = .loading →
        ((∀ f h d, s.decoder = .busy f h d → ∃ c, h = .abort c) → allots left id) ∧
        ∀ f d,
          (∀ g, s.decoder = .busy f (.unpin g) d ∨ s.decoder = .busy f (.offline g) d →
            ((u.engine g).saveInProgress = true → allots left id) ∧
            ((u.engine g).saveInProgress = false →
              allots (idle left g
                (if s.decoder = .busy f (.unpin g) d ∧ (u.engine g).offlineDue = false then .scrub else .offline))
                (fun t => t.concluded f d .ok))) ∧
          ∀ m c, s.decoder = .busy f (.move m c) d →
            (noRequestSaving u → allots (moved left m c) (fun t => t.concluded f d .ok)) ∧
            (¬ noRequestSaving u → allots left id)) ∧
      (en.state = .loading → noRequestSaving s →
        ∀ (f : Frame) (i : Instr), f.holdable i → s.decoder = .busy f .swapSave false →
          exec (.saveEnd e) s = exec i (u.requeued f))
    (x.state = .atRest ∨ x.state = .inRecord ∧ k.level ≠ .uncorrectable → goesOn (emptied saved)) ∧
    (x.state = .inRecord → k.level = .uncorrectable →
      ((∀ j ∈ s.jobs, j.stream = n → j.state.live = false) →
        ∃ u : State, lost.faults u n ∧ goesOn (u.dropped n)) ∧
      ∀ j, s.cuttable x.home j → j.stream = n → j.state = .queued ∨ j.state = .waiting →
        ∃ u t : State, lost.faults u n ∧ u.cutTo t x.home j (j.endedAs .cancelled .streamFaulted) ∧
          goesOn (t.dropped n))

/-! ### Reports -/

/-- REPORT ACK and REPORT SET: a number outstanding removes every report up to it, sets the retry count to 0, restarts or
stops the retry timer and counts what was removed and what is left; the slots freed are filled by the claims that stand,
one grant of the slot arbiter after another (R122), a JOB END making the next entry of its channel the head: QUEUED, it
enters WAITING, with its NO-ENGINE test and its allocation attempt; already ended, it is removed silently or claims in its
turn (R56, R58, R67, R83, R86); another number is BAD-ACK; REPORT SET refuses 1 and restarts the timer under the new period
(R125, R127, R129).
The model's own, by the assumption log: the arbiter of log 15, the settling of log 16, the count before refilling of
log 34, the retry count 0 in every link state of log 35. -/
def Obligations.ReportAckAndSetFollowTheirRules : Prop :=
  ∀ (s : State) (f : Frame), s.reports.numbered → s.reports.outbox.length ≤ 16 → s.unsettled = false →
    let r := s.reports
    let timer (period : Nat) (outbox : List Report) : Option Nat :=
      if s.link.state = .opened ∧ period ≠ 0 ∧ outbox ≠ [] then some 0 else none
    (s.takes 0x40 f →
      ((∀ q ∈ r.outbox, q.number ≠ byteAt f.payload 0) →
        exec .reportAck s = .next (s.answered f .ordinary .badAck [])) ∧
      ∀ gone last kept, r.outbox = gone ++ last :: kept → last.number = byteAt f.payload 0 →
        (∀ c, (s.channel c).claim = true → (s.channel c).queue.tail = [] ∨ s.coherent ∧ s.freesNone c) →
        let freed := s.setReports { r with outbox := kept, retryCount := 0, retryTimer := timer r.retryPeriod kept }
        ∃ t : State, freed.follows t ∧ exec .reportAck s = .next (t.answered f .ordinary .ok
          [BitVec.ofNat 8 (gone.length + 1), BitVec.ofNat 8 kept.length, r.nextNumber])) ∧
    (s.takes 0x41 f →
      let v := natAt f.payload 0
      (v = 1 → exec .reportSet s = .next (s.answered f .ordinary .badField [])) ∧
      (v ≠ 1 → exec .reportSet s = .next ((s.setReports { r with
        retryPeriod := v, retryTimer := timer v r.outbox }).answered f .ordinary .ok
          [BitVec.ofNat 8 v, BitVec.ofNat 8 r.retryCount, BitVec.ofNat 8 r.outbox.length,
            (r.outbox.head?.map (·.number)).getD r.nextNumber, r.nextNumber])))

/-- The slot arbiter fills a slot with the first claim: a fault notice of the lowest bank, with a snapshot of the bank; else
the watch notice of the lowest channel; else a job end, round robin from the job end pointer, whose job leaves its
queue and whose pointer moves past the channel; each takes the next number, and nothing else changes: a notice leaves
the job end pointer as it is (R118, R119, R120, R122, R123).
The model's own, by the assumption log: the job state of log 41, the contents of a JOB END of log 38. -/
def Obligations.SlotArbiterGrantsTheFirstClaim : Prop :=
  ∀ s : State,
    let r := s.reports
    let enters (body : ReportBody) : Reports := { r with
      outbox := r.outbox ++ [{ number := r.nextNumber, body := body, sendDue := s.link.state == .opened }]
      nextNumber := r.nextNumber + 1
      retryTimer := if r.outbox = [] then
        (if s.link.state = .opened ∧ r.retryPeriod ≠ 0 then some 0 else none) else r.retryTimer }
    let faultNotice (b : BankIx) := ReportBody.faultNotice
      { bank := b, record := (s.bank b).record, overflow := (s.bank b).overflow && (s.bank b).record.isSome
        corrected := (s.bank b).corrected, uncorrected := if b.val < 6 then (s.bank b).uncorrected else 0 }
    let watchNotice (c : ChanIx) (tag : Nat) (j : Job) := ReportBody.watchNotice
      { channel := c, tag := tag, jobState := j.state, elapsed := min ((s.watch c).clock.getD 0) 65535 }
    (16 ≤ r.outbox.length → s.grantStep = s) ∧
    (r.outbox.length < 16 →
      (∀ b, r.faultPending.get b = true → (∀ a, a < b → r.faultPending.get a = false) →
        s.grantStep = { s with reports := { enters (faultNotice b) with
          faultPending := r.faultPending.set b false } }) ∧
      ((∀ b, r.faultPending.get b = false) →
        (∀ c tag j, r.watchPending.get c = some tag → (∀ d, d < c → r.watchPending.get d = none) →
          s.head c = some j → s.grantStep = { s with reports := { enters (watchNotice c tag j) with
            watchPending := r.watchPending.set c none } }) ∧
        ((∀ c, r.watchPending.get c = none) →
          (∀ (k : Nat) (j : Job), k < 4 →
            let c : ChanIx := r.jobEndPtr + Fin.ofNat 4 k
            (s.channel c).claim = true → s.head c = some j →
            (∀ i : Nat, i < k → (s.channel (r.jobEndPtr + Fin.ofNat 4 i)).claim = false) →
            s.grantStep = State.setChannel
              { s with reports := { enters (.jobEnd (jobEndInfo j (s.channel c).silent)) with jobEndPtr := c + 1 } } c
              { s.channel c with queue := (s.channel c).queue.tail, silent := 0, claim := false }) ∧
          ((∀ c, (s.channel c).claim = false) → s.grantStep = s))))

/-! ### Fault banks and their requests -/

/-- One arrival at a bank: the counts whatever the masks, the record by the policy of R142, the automatic offline trigger of
R143, which a mask does not prevent, and where the record was written the pending flag. With a slot of the outbox free and
no other claim, the FAULT NOTICE of the bank as it then stands enters at once, and the flag is clear again (R118 to R120,
R122). The model's own, by the assumption log: that the arbiter acts at each arrival, log 15. -/
def Obligations.ArrivalIsCountedAndRecorded : Prop :=
  ∀ (s : State) (b : BankIx) (a : FaultRecord),
    let x := s.bank b
    let t := s.arrive b a
    let y := t.bank b
    let r := s.reports
    let shut := match a.severity with
      | .corrected => x.maskCorrected
      | .uncorrected => x.maskUncorrected
    let written := shut = false ∧ (x.record = none ∨
      ∃ old, x.record = some old ∧ old.severity = .corrected ∧ a.severity = .uncorrected)
    let notice := ReportBody.faultNotice
      { bank := b, record := y.record, overflow := y.overflow && y.record.isSome, corrected := y.corrected
        uncorrected := if b.val < 6 then y.uncorrected else 0 }
    y.corrected = (if a.severity = .corrected then min (x.corrected + 1) 255 else x.corrected) ∧
    y.uncorrected =
      (if a.severity = .uncorrected ∧ b.val < 6 then min (x.uncorrected + 1) 255 else x.uncorrected) ∧
    y.maskCorrected = x.maskCorrected ∧ y.maskUncorrected = x.maskUncorrected ∧
    (∀ d, d ≠ b → t.bank d = s.bank d) ∧
    (shut = true → y.record = x.record ∧ y.overflow = x.overflow) ∧
    (shut = false → x.record = none → y.record = some a ∧ y.overflow = false) ∧
    (∀ old, shut = false → x.record = some old → old.severity = .corrected → a.severity = .uncorrected →
      y.record = some a ∧ y.overflow = true) ∧
    (∀ old, shut = false → x.record = some old → old.severity = .uncorrected ∨ a.severity = .corrected →
      y.record = some old ∧ y.overflow = true) ∧
    (∀ e : EngineIx, t.engine e = { s.engine e with
      offlineDue := (s.engine e).offlineDue || (decide (e.val = b.val) && a.severity == .uncorrected &&
        (a.kind == .internal || decide (3 ≤ y.uncorrected))) }) ∧
    (¬ written → t = { s with banks := t.banks, engines := t.engines }) ∧
    (written → r.outbox.length = 16 → t = { s with
      banks := t.banks, engines := t.engines
      reports := { r with faultPending := r.faultPending.set b true } }) ∧
    (written → r.outbox.length < 16 → s.firstClaim = none → t = { s with
      banks := t.banks, engines := t.engines
      reports := { r with
        outbox := r.outbox ++ [{ number := r.nextNumber, body := notice, sendDue := s.link.state == .opened }]
        nextNumber := r.nextNumber + 1
        retryTimer := if r.outbox = [] then
          (if s.link.state = .opened ∧ r.retryPeriod ≠ 0 then some 0 else none) else r.retryTimer } })

/-- WATCH SET and the fault requests. WATCH SET (R139): its checks in order; the values are taken, a running timer starts again
from 0 with WARN taken clear, a stopped one stays stopped, and the reply gives the values in force and the timer. FAULT
READ gives the bank as it stands and changes nothing (R147, R176); FAULT CLEAR removes the record and the corrected
count and nothing else (R148); FAULT MASK writes the two masks and nothing else (R149). -/
def Obligations.WatchAndFaultRequestsFollowTheirRules : Prop :=
  (∀ (s : State) (f : Frame), s.takes 0x48 f →
    let warn := (halfAt f.payload 1).toNat
    let limit := (halfAt f.payload 3).toNat
    let refused := exec .watchSet s = .next (s.answered f .ordinary .badField [])
    (3 < natAt f.payload 0 → refused) ∧ (60000 < warn ∨ 60000 < limit → refused) ∧
    (warn ≠ 0 → limit ≠ 0 → limit ≤ warn → refused) ∧
    ∀ c : ChanIx, natAt f.payload 0 = c.val → warn ≤ 60000 → limit ≤ 60000 →
      (warn = 0 ∨ limit = 0 ∨ warn < limit) →
      ((s.watch c).timer = none → exec .watchSet s =
        .next ((s.setWatch c { s.watch c with warn := warn, limit := limit }).answered f .ordinary .ok
          (numBytes warn ++ numBytes limit ++ [0, 0, 0]))) ∧
      (∀ ms, (s.watch c).timer = some ms → exec .watchSet s =
        .next ((s.setWatch c { s.watch c with
          warn := warn, limit := limit, timer := some 0, warnTaken := false }).answered f .ordinary .ok
            (numBytes warn ++ numBytes limit ++ [1, 0, 0])))) ∧
  ∀ (s : State) (f : Frame) (b : BankIx),
    let x := s.bank b
    let refused (c : Instr) := exec c s = .next (s.answered f .ordinary .badField [])
    let flag (on : Bool) (v : Nat) : Nat := if on then v else 0
    (∀ c k, (c = .faultRead ∧ k = 0x49 ∨ c = .faultClear ∧ k = 0x4A ∨ c = .faultMask ∧ k = 0x4B) → s.takes k f →
      6 < natAt f.payload 0 → refused c) ∧
    (s.takes 0x49 f → natAt f.payload 0 = b.val →
      let counts := [BitVec.ofNat 8 x.corrected, BitVec.ofNat 8 (if b.val = 6 then 0 else x.uncorrected),
        BitVec.ofNat 8 (flag x.maskCorrected 1 + flag x.maskUncorrected 2),
        BitVec.ofNat 8 (flag (s.reports.faultPending.get b) 1)]
      (x.record = none → exec .faultRead s = .next (s.answered f .ordinary .ok
        ([BitVec.ofNat 8 b.val, 0, 0, 0, 0, 0, 0, 0, 0] ++ counts))) ∧
      ∀ r, x.record = some r → exec .faultRead s = .next (s.answered f .ordinary .ok
        ([BitVec.ofNat 8 b.val,
            BitVec.ofNat 8 (1 + flag x.overflow 2 + flag r.site.isSome 4 + flag r.tag.isSome 8),
            severityCode r.severity, faultKindCode r.kind] ++
          (match r.site with
           | none => [0, 0, 0]
           | some (.block h o) => BitVec.ofNat 8 h :: numBytes o
           | some (.stream n) => [BitVec.ofNat 8 n.val, 0, 0]) ++
          numBytes (r.tag.getD 0) ++ counts))) ∧
    (s.takes 0x4A f → natAt f.payload 0 = b.val → exec .faultClear s = .next
      ((s.setBank b { x with record := none, overflow := false, corrected := 0 }).answered f .ordinary .ok [])) ∧
    (s.takes 0x4B f → natAt f.payload 0 = b.val →
      (3 < natAt f.payload 1 → refused .faultMask) ∧
      ∀ corrected uncorrected, natAt f.payload 1 = flag corrected 1 + flag uncorrected 2 →
        exec .faultMask s = .next ((s.setBank b { x with
          maskCorrected := corrected, maskUncorrected := uncorrected }).answered f .ordinary .ok []))

/-! ### Invariants that every step keeps -/

/-- The two sparse lists of the buffer store stay in canonical form (the model's form of R98's memory).
The model's own, by the assumption log: the canonical lists of log 28. -/
def Obligations.CanonicalMemoryIsKept : Prop :=
  ∀ s t : State, s.store.canonical → step s = .next t → t.store.canonical

/-- No block is held twice, and free and held blocks make 512 (R99, R100): kept by every step, whatever command runs.
The model's own, by the assumption log: the free blocks of log 28. -/
def Obligations.BlockAccountingIsKept : Prop :=
  ∀ s t : State, s.store.blocksCounted → step s = .next t → t.store.blocksCounted

/-- Every queue stays within its capacity, and the outbox stays numbered without a gap (R55, R117, R158, R159, R161). -/
def Obligations.CapacitiesAndNumberingAreKept : Prop :=
  ∀ s t : State, s.withinCapacity → s.reports.numbered → step s = .next t →
    t.withinCapacity ∧ t.reports.numbered

/-- Every setting and count stays in the range its rule gives (R73, R102, R108, R117, R133, R139, R140, R142). -/
def Obligations.SettingsAndCountsStayInRange : Prop := ∀ s t : State, s.inRange → step s = .next t → t.inRange

/-- Tags stay unique and in 1 to 65535, and the in-flight count of every stream stays the number of its live jobs (R15, R49,
R55, R67): kept by every step from a state in which jobs, buffers, engines and wait queue agree. -/
def Obligations.TagsAndInFlightCountsAreKept : Prop :=
  ∀ s t : State, s.coherent → step s = .next t → t.jobsCounted

/-- The use count of every buffer stays the number of live jobs that name it, and its locks stay those of their roles (R101,
R110): kept by every step from a state in which jobs, buffers, engines and wait queue agree. -/
def Obligations.UseCountsAndLocksAreKept : Prop :=
  ∀ s t : State, s.coherent → step s = .next t → t.usesCounted

/-- The state, binding, part and job of every engine stay those of one state of R77, in agreement with the head jobs that work
(R5, R77, R79): kept by every step from a state in which jobs, buffers, engines and wait queue agree. The clause on open
findings is the model's (log 43). -/
def Obligations.EnginesStayInAgreement : Prop :=
  ∀ s t : State, s.coherent → step s = .next t → t.enginesAgree

/-- The block wait queue stays a list of at most 4 channels without repeats, those whose head job is HELD, and the free count
stays 0 while it is not empty (R112): kept by every step from a state in which jobs, buffers, engines and wait queue
agree. -/
def Obligations.WaitQueueHoldsTheHeldChannels : Prop :=
  ∀ s t : State, s.coherent → step s = .next t → t.waitersHeld

/-- The state after Power-on meets the invariants. -/
def Obligations.PowerOnStateMeetsTheInvariants : Prop :=
  State.reset.store.canonical ∧ State.reset.store.blocksCounted ∧ State.reset.withinCapacity ∧
    State.reset.reports.numbered ∧ State.reset.inRange ∧ State.reset.coherent

/-! ### Rules over all commands -/

/-- The record state changes only as the table of R2 says. FREE is left by STREAM OPEN alone, to AT-REST, and entered by STREAM
CLOSE and the resets alone; IN-RECORD is entered from AT-REST by a job's DONE end alone, and left for AT-REST by a job's
DONE end or STREAM RESET alone; FAULTED is entered from IN-RECORD alone, left for AT-REST by STREAM RESET and for FREE by
STREAM CLOSE and the resets alone. A RESET or CLOSE held behind a swap save is taken when the save has ended. While an
entry is open its profile is fixed, and its key changes by STREAM KEY alone (R2, R4, R22, R89).
The model's own, by the assumption log: FAULTED only from IN-RECORD as log 21 reads R2. -/
def Obligations.RecordStateFollowsItsTable : Prop :=
  ∀ (c : Instr) (s t : State) (n : StreamIx), exec c s = .next t →
    let x := s.stream n
    let y := t.stream n
    let held (k : Byte) := (∃ f d, s.decoder = .busy f .swapSave d ∧ f.kind = k) ∧
      ((∃ e, c = .saveEnd e ∨ c = .engineSelfCheckFault e) ∨ ∃ d, c = .savingEnd d)
    let done := ∃ d, c = .savingEnd d ∨ c = .transformWorkEnd d
    let resets := c = .powerOn ∨ c = .resetnAssert ∨
      c = .frameSent ∧ ∃ f, s.link.sending = some { source := .reply .reset, frame := f }
    (x.state = .free → y.state = .free ∨ y.state = .atRest ∧ c = .streamOpen) ∧
    (x.state ≠ .free → y.state = .free → c = .streamClose ∨ held 0x21 ∨ resets) ∧
    (x.state = .atRest → y.state = .inRecord → done) ∧
    (x.state = .inRecord → y.state = .atRest → done ∨ c = .streamReset ∨ held 0x22) ∧
    (y.state = .faulted → x.state = .faulted ∨ x.state = .inRecord) ∧
    (x.state = .faulted → y.state ≠ .inRecord ∧ (y.state = .atRest → c = .streamReset ∨ held 0x22)) ∧
    (x.state ≠ .free → y.state ≠ .free → y.profile = x.profile ∧ (y.key ≠ x.key → c = .streamKey))

/-- An engine bank's uncorrected count falls by ENGINE RESTORE and Power-on alone, so no other command undoes the count
behind the automatic offline trigger (R94, R143, R148, R150). -/
def Obligations.UncorrectedCountsAreNotForgotten : Prop :=
  ∀ (c : Instr) (s t : State) (b : BankIx), exec c s = .next t → (s.bank b).uncorrected ≤ 255 →
    (t.bank b).uncorrected < (s.bank b).uncorrected → c = .engineRestore ∨ c = .powerOn

/-! ### The packing transforms -/

/-- A receiver recovers every RUN record: decoding the packed bytes by the tokens of R32 gives back the data, whatever the
escape byte and the data, for every minimum run of the profile's range (R32 to R35). -/
def Obligations.RunRecordDecodes : Prop :=
  ∀ (p : Profile) (data : List Byte), p.kind = .run → 3 ≤ p.runMin → p.runMin ≤ 8 →
    decodeRun p.runMin p.runEscape (packRecord p data) = data

/-- A receiver recovers every DELTA and WHITEN record, and the packed record has as many bytes as the data (R29 to R31, R36,
R37). -/
def Obligations.DeltaAndWhitenRecordsDecode : Prop :=
  ∀ (p : Profile) (data : List Byte),
    (p.kind = .delta → p.deltaWidth = 1 → decodeDelta1 (p.deltaBase.setWidth 8) (packRecord p data) = data) ∧
    (p.kind = .delta → p.deltaWidth = 2 → decodeDelta2 p.deltaBase (packRecord p data) = data) ∧
    (p.kind = .whiten → packRecord p (packRecord p data) = data) ∧
    (p.kind = .delta ∧ (p.deltaWidth = 1 ∨ p.deltaWidth = 2) ∨ p.kind = .whiten →
      (packRecord p data).length = data.length)
end

