-- ==== Sys2Proof/Laws/State.lean ====
section
/-! SUPPORT. One lemma per field per update of State: what each update of Machine/Ops.lean writes and what it leaves. -/

namespace Sys2Proof.Machine

variable (s : State)

/-! ### setStream -/

@[simp] theorem State.setStream_pending (n : StreamIx) (x : Stream) : (s.setStream n x).pending = s.pending := rfl
@[simp] theorem State.setStream_late (n : StreamIx) (x : Stream) : (s.setStream n x).late = s.late := rfl
@[simp] theorem State.setStream_stage (n : StreamIx) (x : Stream) : (s.setStream n x).stage = s.stage := rfl
@[simp] theorem State.setStream_link (n : StreamIx) (x : Stream) : (s.setStream n x).link = s.link := rfl
@[simp] theorem State.setStream_decoder (n : StreamIx) (x : Stream) : (s.setStream n x).decoder = s.decoder := rfl
@[simp] theorem State.setStream_nextTag (n : StreamIx) (x : Stream) : (s.setStream n x).nextTag = s.nextTag := rfl
@[simp] theorem State.setStream_channels (n : StreamIx) (x : Stream) : (s.setStream n x).channels = s.channels := rfl
@[simp] theorem State.setStream_engines (n : StreamIx) (x : Stream) : (s.setStream n x).engines = s.engines := rfl
@[simp] theorem State.setStream_grantPtr (n : StreamIx) (x : Stream) : (s.setStream n x).grantPtr = s.grantPtr := rfl
@[simp] theorem State.setStream_store (n : StreamIx) (x : Stream) : (s.setStream n x).store = s.store := rfl
@[simp] theorem State.setStream_reports (n : StreamIx) (x : Stream) : (s.setStream n x).reports = s.reports := rfl
@[simp] theorem State.setStream_watches (n : StreamIx) (x : Stream) : (s.setStream n x).watches = s.watches := rfl
@[simp] theorem State.setStream_banks (n : StreamIx) (x : Stream) : (s.setStream n x).banks = s.banks := rfl
@[simp] theorem State.setStream_channel (n : StreamIx) (x : Stream) (i : ChanIx) : (s.setStream n x).channel i = s.channel i := rfl
@[simp] theorem State.setStream_engine (n : StreamIx) (x : Stream) (i : EngineIx) : (s.setStream n x).engine i = s.engine i := rfl
@[simp] theorem State.setStream_watch (n : StreamIx) (x : Stream) (i : ChanIx) : (s.setStream n x).watch i = s.watch i := rfl
@[simp] theorem State.setStream_bank (n : StreamIx) (x : Stream) (i : BankIx) : (s.setStream n x).bank i = s.bank i := rfl
@[simp] theorem State.setStream_head (n : StreamIx) (x : Stream) (i : ChanIx) : (s.setStream n x).head i = s.head i := rfl

/-! ### setChannel -/

@[simp] theorem State.setChannel_pending (c : ChanIx) (x : Channel) : (s.setChannel c x).pending = s.pending := rfl
@[simp] theorem State.setChannel_late (c : ChanIx) (x : Channel) : (s.setChannel c x).late = s.late := rfl
@[simp] theorem State.setChannel_stage (c : ChanIx) (x : Channel) : (s.setChannel c x).stage = s.stage := rfl
@[simp] theorem State.setChannel_link (c : ChanIx) (x : Channel) : (s.setChannel c x).link = s.link := rfl
@[simp] theorem State.setChannel_decoder (c : ChanIx) (x : Channel) : (s.setChannel c x).decoder = s.decoder := rfl
@[simp] theorem State.setChannel_streams (c : ChanIx) (x : Channel) : (s.setChannel c x).streams = s.streams := rfl
@[simp] theorem State.setChannel_nextTag (c : ChanIx) (x : Channel) : (s.setChannel c x).nextTag = s.nextTag := rfl
@[simp] theorem State.setChannel_engines (c : ChanIx) (x : Channel) : (s.setChannel c x).engines = s.engines := rfl
@[simp] theorem State.setChannel_grantPtr (c : ChanIx) (x : Channel) : (s.setChannel c x).grantPtr = s.grantPtr := rfl
@[simp] theorem State.setChannel_store (c : ChanIx) (x : Channel) : (s.setChannel c x).store = s.store := rfl
@[simp] theorem State.setChannel_reports (c : ChanIx) (x : Channel) : (s.setChannel c x).reports = s.reports := rfl
@[simp] theorem State.setChannel_watches (c : ChanIx) (x : Channel) : (s.setChannel c x).watches = s.watches := rfl
@[simp] theorem State.setChannel_banks (c : ChanIx) (x : Channel) : (s.setChannel c x).banks = s.banks := rfl
@[simp] theorem State.setChannel_stream (c : ChanIx) (x : Channel) (i : StreamIx) : (s.setChannel c x).stream i = s.stream i := rfl
@[simp] theorem State.setChannel_engine (c : ChanIx) (x : Channel) (i : EngineIx) : (s.setChannel c x).engine i = s.engine i := rfl
@[simp] theorem State.setChannel_watch (c : ChanIx) (x : Channel) (i : ChanIx) : (s.setChannel c x).watch i = s.watch i := rfl
@[simp] theorem State.setChannel_bank (c : ChanIx) (x : Channel) (i : BankIx) : (s.setChannel c x).bank i = s.bank i := rfl

/-! ### setEngine -/

@[simp] theorem State.setEngine_pending (e : EngineIx) (x : Engine) : (s.setEngine e x).pending = s.pending := rfl
@[simp] theorem State.setEngine_late (e : EngineIx) (x : Engine) : (s.setEngine e x).late = s.late := rfl
@[simp] theorem State.setEngine_stage (e : EngineIx) (x : Engine) : (s.setEngine e x).stage = s.stage := rfl
@[simp] theorem State.setEngine_link (e : EngineIx) (x : Engine) : (s.setEngine e x).link = s.link := rfl
@[simp] theorem State.setEngine_decoder (e : EngineIx) (x : Engine) : (s.setEngine e x).decoder = s.decoder := rfl
@[simp] theorem State.setEngine_streams (e : EngineIx) (x : Engine) : (s.setEngine e x).streams = s.streams := rfl
@[simp] theorem State.setEngine_nextTag (e : EngineIx) (x : Engine) : (s.setEngine e x).nextTag = s.nextTag := rfl
@[simp] theorem State.setEngine_channels (e : EngineIx) (x : Engine) : (s.setEngine e x).channels = s.channels := rfl
@[simp] theorem State.setEngine_grantPtr (e : EngineIx) (x : Engine) : (s.setEngine e x).grantPtr = s.grantPtr := rfl
@[simp] theorem State.setEngine_store (e : EngineIx) (x : Engine) : (s.setEngine e x).store = s.store := rfl
@[simp] theorem State.setEngine_reports (e : EngineIx) (x : Engine) : (s.setEngine e x).reports = s.reports := rfl
@[simp] theorem State.setEngine_watches (e : EngineIx) (x : Engine) : (s.setEngine e x).watches = s.watches := rfl
@[simp] theorem State.setEngine_banks (e : EngineIx) (x : Engine) : (s.setEngine e x).banks = s.banks := rfl
@[simp] theorem State.setEngine_stream (e : EngineIx) (x : Engine) (i : StreamIx) : (s.setEngine e x).stream i = s.stream i := rfl
@[simp] theorem State.setEngine_channel (e : EngineIx) (x : Engine) (i : ChanIx) : (s.setEngine e x).channel i = s.channel i := rfl
@[simp] theorem State.setEngine_watch (e : EngineIx) (x : Engine) (i : ChanIx) : (s.setEngine e x).watch i = s.watch i := rfl
@[simp] theorem State.setEngine_bank (e : EngineIx) (x : Engine) (i : BankIx) : (s.setEngine e x).bank i = s.bank i := rfl
@[simp] theorem State.setEngine_head (e : EngineIx) (x : Engine) (i : ChanIx) : (s.setEngine e x).head i = s.head i := rfl

/-! ### setWatch -/

@[simp] theorem State.setWatch_pending (c : ChanIx) (x : Watch) : (s.setWatch c x).pending = s.pending := rfl
@[simp] theorem State.setWatch_late (c : ChanIx) (x : Watch) : (s.setWatch c x).late = s.late := rfl
@[simp] theorem State.setWatch_stage (c : ChanIx) (x : Watch) : (s.setWatch c x).stage = s.stage := rfl
@[simp] theorem State.setWatch_link (c : ChanIx) (x : Watch) : (s.setWatch c x).link = s.link := rfl
@[simp] theorem State.setWatch_decoder (c : ChanIx) (x : Watch) : (s.setWatch c x).decoder = s.decoder := rfl
@[simp] theorem State.setWatch_streams (c : ChanIx) (x : Watch) : (s.setWatch c x).streams = s.streams := rfl
@[simp] theorem State.setWatch_nextTag (c : ChanIx) (x : Watch) : (s.setWatch c x).nextTag = s.nextTag := rfl
@[simp] theorem State.setWatch_channels (c : ChanIx) (x : Watch) : (s.setWatch c x).channels = s.channels := rfl
@[simp] theorem State.setWatch_engines (c : ChanIx) (x : Watch) : (s.setWatch c x).engines = s.engines := rfl
@[simp] theorem State.setWatch_grantPtr (c : ChanIx) (x : Watch) : (s.setWatch c x).grantPtr = s.grantPtr := rfl
@[simp] theorem State.setWatch_store (c : ChanIx) (x : Watch) : (s.setWatch c x).store = s.store := rfl
@[simp] theorem State.setWatch_reports (c : ChanIx) (x : Watch) : (s.setWatch c x).reports = s.reports := rfl
@[simp] theorem State.setWatch_banks (c : ChanIx) (x : Watch) : (s.setWatch c x).banks = s.banks := rfl
@[simp] theorem State.setWatch_stream (c : ChanIx) (x : Watch) (i : StreamIx) : (s.setWatch c x).stream i = s.stream i := rfl
@[simp] theorem State.setWatch_channel (c : ChanIx) (x : Watch) (i : ChanIx) : (s.setWatch c x).channel i = s.channel i := rfl
@[simp] theorem State.setWatch_engine (c : ChanIx) (x : Watch) (i : EngineIx) : (s.setWatch c x).engine i = s.engine i := rfl
@[simp] theorem State.setWatch_bank (c : ChanIx) (x : Watch) (i : BankIx) : (s.setWatch c x).bank i = s.bank i := rfl
@[simp] theorem State.setWatch_head (c : ChanIx) (x : Watch) (i : ChanIx) : (s.setWatch c x).head i = s.head i := rfl

/-! ### setBank -/

@[simp] theorem State.setBank_pending (b : BankIx) (x : Bank) : (s.setBank b x).pending = s.pending := rfl
@[simp] theorem State.setBank_late (b : BankIx) (x : Bank) : (s.setBank b x).late = s.late := rfl
@[simp] theorem State.setBank_stage (b : BankIx) (x : Bank) : (s.setBank b x).stage = s.stage := rfl
@[simp] theorem State.setBank_link (b : BankIx) (x : Bank) : (s.setBank b x).link = s.link := rfl
@[simp] theorem State.setBank_decoder (b : BankIx) (x : Bank) : (s.setBank b x).decoder = s.decoder := rfl
@[simp] theorem State.setBank_streams (b : BankIx) (x : Bank) : (s.setBank b x).streams = s.streams := rfl
@[simp] theorem State.setBank_nextTag (b : BankIx) (x : Bank) : (s.setBank b x).nextTag = s.nextTag := rfl
@[simp] theorem State.setBank_channels (b : BankIx) (x : Bank) : (s.setBank b x).channels = s.channels := rfl
@[simp] theorem State.setBank_engines (b : BankIx) (x : Bank) : (s.setBank b x).engines = s.engines := rfl
@[simp] theorem State.setBank_grantPtr (b : BankIx) (x : Bank) : (s.setBank b x).grantPtr = s.grantPtr := rfl
@[simp] theorem State.setBank_store (b : BankIx) (x : Bank) : (s.setBank b x).store = s.store := rfl
@[simp] theorem State.setBank_reports (b : BankIx) (x : Bank) : (s.setBank b x).reports = s.reports := rfl
@[simp] theorem State.setBank_watches (b : BankIx) (x : Bank) : (s.setBank b x).watches = s.watches := rfl
@[simp] theorem State.setBank_stream (b : BankIx) (x : Bank) (i : StreamIx) : (s.setBank b x).stream i = s.stream i := rfl
@[simp] theorem State.setBank_channel (b : BankIx) (x : Bank) (i : ChanIx) : (s.setBank b x).channel i = s.channel i := rfl
@[simp] theorem State.setBank_engine (b : BankIx) (x : Bank) (i : EngineIx) : (s.setBank b x).engine i = s.engine i := rfl
@[simp] theorem State.setBank_watch (b : BankIx) (x : Bank) (i : ChanIx) : (s.setBank b x).watch i = s.watch i := rfl
@[simp] theorem State.setBank_head (b : BankIx) (x : Bank) (i : ChanIx) : (s.setBank b x).head i = s.head i := rfl

/-! ### setStore -/

@[simp] theorem State.setStore_pending (x : Store) : (s.setStore x).pending = s.pending := rfl
@[simp] theorem State.setStore_late (x : Store) : (s.setStore x).late = s.late := rfl
@[simp] theorem State.setStore_stage (x : Store) : (s.setStore x).stage = s.stage := rfl
@[simp] theorem State.setStore_link (x : Store) : (s.setStore x).link = s.link := rfl
@[simp] theorem State.setStore_decoder (x : Store) : (s.setStore x).decoder = s.decoder := rfl
@[simp] theorem State.setStore_streams (x : Store) : (s.setStore x).streams = s.streams := rfl
@[simp] theorem State.setStore_nextTag (x : Store) : (s.setStore x).nextTag = s.nextTag := rfl
@[simp] theorem State.setStore_channels (x : Store) : (s.setStore x).channels = s.channels := rfl
@[simp] theorem State.setStore_engines (x : Store) : (s.setStore x).engines = s.engines := rfl
@[simp] theorem State.setStore_grantPtr (x : Store) : (s.setStore x).grantPtr = s.grantPtr := rfl
@[simp] theorem State.setStore_store (x : Store) : (s.setStore x).store = x := rfl
@[simp] theorem State.setStore_reports (x : Store) : (s.setStore x).reports = s.reports := rfl
@[simp] theorem State.setStore_watches (x : Store) : (s.setStore x).watches = s.watches := rfl
@[simp] theorem State.setStore_banks (x : Store) : (s.setStore x).banks = s.banks := rfl
@[simp] theorem State.setStore_stream (x : Store) (i : StreamIx) : (s.setStore x).stream i = s.stream i := rfl
@[simp] theorem State.setStore_channel (x : Store) (i : ChanIx) : (s.setStore x).channel i = s.channel i := rfl
@[simp] theorem State.setStore_engine (x : Store) (i : EngineIx) : (s.setStore x).engine i = s.engine i := rfl
@[simp] theorem State.setStore_watch (x : Store) (i : ChanIx) : (s.setStore x).watch i = s.watch i := rfl
@[simp] theorem State.setStore_bank (x : Store) (i : BankIx) : (s.setStore x).bank i = s.bank i := rfl
@[simp] theorem State.setStore_head (x : Store) (i : ChanIx) : (s.setStore x).head i = s.head i := rfl

/-! ### setReports -/

@[simp] theorem State.setReports_pending (x : Reports) : (s.setReports x).pending = s.pending := rfl
@[simp] theorem State.setReports_late (x : Reports) : (s.setReports x).late = s.late := rfl
@[simp] theorem State.setReports_stage (x : Reports) : (s.setReports x).stage = s.stage := rfl
@[simp] theorem State.setReports_link (x : Reports) : (s.setReports x).link = s.link := rfl
@[simp] theorem State.setReports_decoder (x : Reports) : (s.setReports x).decoder = s.decoder := rfl
@[simp] theorem State.setReports_streams (x : Reports) : (s.setReports x).streams = s.streams := rfl
@[simp] theorem State.setReports_nextTag (x : Reports) : (s.setReports x).nextTag = s.nextTag := rfl
@[simp] theorem State.setReports_channels (x : Reports) : (s.setReports x).channels = s.channels := rfl
@[simp] theorem State.setReports_engines (x : Reports) : (s.setReports x).engines = s.engines := rfl
@[simp] theorem State.setReports_grantPtr (x : Reports) : (s.setReports x).grantPtr = s.grantPtr := rfl
@[simp] theorem State.setReports_store (x : Reports) : (s.setReports x).store = s.store := rfl
@[simp] theorem State.setReports_reports (x : Reports) : (s.setReports x).reports = x := rfl
@[simp] theorem State.setReports_watches (x : Reports) : (s.setReports x).watches = s.watches := rfl
@[simp] theorem State.setReports_banks (x : Reports) : (s.setReports x).banks = s.banks := rfl
@[simp] theorem State.setReports_stream (x : Reports) (i : StreamIx) : (s.setReports x).stream i = s.stream i := rfl
@[simp] theorem State.setReports_channel (x : Reports) (i : ChanIx) : (s.setReports x).channel i = s.channel i := rfl
@[simp] theorem State.setReports_engine (x : Reports) (i : EngineIx) : (s.setReports x).engine i = s.engine i := rfl
@[simp] theorem State.setReports_watch (x : Reports) (i : ChanIx) : (s.setReports x).watch i = s.watch i := rfl
@[simp] theorem State.setReports_bank (x : Reports) (i : BankIx) : (s.setReports x).bank i = s.bank i := rfl
@[simp] theorem State.setReports_head (x : Reports) (i : ChanIx) : (s.setReports x).head i = s.head i := rfl

/-! ### setLate -/

@[simp] theorem State.setLate_pending (x : List Late) : (s.setLate x).pending = s.pending := rfl
@[simp] theorem State.setLate_late (x : List Late) : (s.setLate x).late = x := rfl
@[simp] theorem State.setLate_stage (x : List Late) : (s.setLate x).stage = s.stage := rfl
@[simp] theorem State.setLate_link (x : List Late) : (s.setLate x).link = s.link := rfl
@[simp] theorem State.setLate_decoder (x : List Late) : (s.setLate x).decoder = s.decoder := rfl
@[simp] theorem State.setLate_streams (x : List Late) : (s.setLate x).streams = s.streams := rfl
@[simp] theorem State.setLate_nextTag (x : List Late) : (s.setLate x).nextTag = s.nextTag := rfl
@[simp] theorem State.setLate_channels (x : List Late) : (s.setLate x).channels = s.channels := rfl
@[simp] theorem State.setLate_engines (x : List Late) : (s.setLate x).engines = s.engines := rfl
@[simp] theorem State.setLate_grantPtr (x : List Late) : (s.setLate x).grantPtr = s.grantPtr := rfl
@[simp] theorem State.setLate_store (x : List Late) : (s.setLate x).store = s.store := rfl
@[simp] theorem State.setLate_reports (x : List Late) : (s.setLate x).reports = s.reports := rfl
@[simp] theorem State.setLate_watches (x : List Late) : (s.setLate x).watches = s.watches := rfl
@[simp] theorem State.setLate_banks (x : List Late) : (s.setLate x).banks = s.banks := rfl
@[simp] theorem State.setLate_stream (x : List Late) (i : StreamIx) : (s.setLate x).stream i = s.stream i := rfl
@[simp] theorem State.setLate_channel (x : List Late) (i : ChanIx) : (s.setLate x).channel i = s.channel i := rfl
@[simp] theorem State.setLate_engine (x : List Late) (i : EngineIx) : (s.setLate x).engine i = s.engine i := rfl
@[simp] theorem State.setLate_watch (x : List Late) (i : ChanIx) : (s.setLate x).watch i = s.watch i := rfl
@[simp] theorem State.setLate_bank (x : List Late) (i : BankIx) : (s.setLate x).bank i = s.bank i := rfl
@[simp] theorem State.setLate_head (x : List Late) (i : ChanIx) : (s.setLate x).head i = s.head i := rfl

/-! ### setLink -/

@[simp] theorem State.setLink_pending (x : Link) : (s.setLink x).pending = s.pending := rfl
@[simp] theorem State.setLink_late (x : Link) : (s.setLink x).late = s.late := rfl
@[simp] theorem State.setLink_stage (x : Link) : (s.setLink x).stage = s.stage := rfl
@[simp] theorem State.setLink_link (x : Link) : (s.setLink x).link = x := rfl
@[simp] theorem State.setLink_decoder (x : Link) : (s.setLink x).decoder = s.decoder := rfl
@[simp] theorem State.setLink_streams (x : Link) : (s.setLink x).streams = s.streams := rfl
@[simp] theorem State.setLink_nextTag (x : Link) : (s.setLink x).nextTag = s.nextTag := rfl
@[simp] theorem State.setLink_channels (x : Link) : (s.setLink x).channels = s.channels := rfl
@[simp] theorem State.setLink_engines (x : Link) : (s.setLink x).engines = s.engines := rfl
@[simp] theorem State.setLink_grantPtr (x : Link) : (s.setLink x).grantPtr = s.grantPtr := rfl
@[simp] theorem State.setLink_store (x : Link) : (s.setLink x).store = s.store := rfl
@[simp] theorem State.setLink_reports (x : Link) : (s.setLink x).reports = s.reports := rfl
@[simp] theorem State.setLink_watches (x : Link) : (s.setLink x).watches = s.watches := rfl
@[simp] theorem State.setLink_banks (x : Link) : (s.setLink x).banks = s.banks := rfl
@[simp] theorem State.setLink_stream (x : Link) (i : StreamIx) : (s.setLink x).stream i = s.stream i := rfl
@[simp] theorem State.setLink_channel (x : Link) (i : ChanIx) : (s.setLink x).channel i = s.channel i := rfl
@[simp] theorem State.setLink_engine (x : Link) (i : EngineIx) : (s.setLink x).engine i = s.engine i := rfl
@[simp] theorem State.setLink_watch (x : Link) (i : ChanIx) : (s.setLink x).watch i = s.watch i := rfl
@[simp] theorem State.setLink_bank (x : Link) (i : BankIx) : (s.setLink x).bank i = s.bank i := rfl
@[simp] theorem State.setLink_head (x : Link) (i : ChanIx) : (s.setLink x).head i = s.head i := rfl

/-! ### setDecoder -/

@[simp] theorem State.setDecoder_pending (x : Decoder) : (s.setDecoder x).pending = s.pending := rfl
@[simp] theorem State.setDecoder_late (x : Decoder) : (s.setDecoder x).late = s.late := rfl
@[simp] theorem State.setDecoder_stage (x : Decoder) : (s.setDecoder x).stage = s.stage := rfl
@[simp] theorem State.setDecoder_link (x : Decoder) : (s.setDecoder x).link = s.link := rfl
@[simp] theorem State.setDecoder_decoder (x : Decoder) : (s.setDecoder x).decoder = x := rfl
@[simp] theorem State.setDecoder_streams (x : Decoder) : (s.setDecoder x).streams = s.streams := rfl
@[simp] theorem State.setDecoder_nextTag (x : Decoder) : (s.setDecoder x).nextTag = s.nextTag := rfl
@[simp] theorem State.setDecoder_channels (x : Decoder) : (s.setDecoder x).channels = s.channels := rfl
@[simp] theorem State.setDecoder_engines (x : Decoder) : (s.setDecoder x).engines = s.engines := rfl
@[simp] theorem State.setDecoder_grantPtr (x : Decoder) : (s.setDecoder x).grantPtr = s.grantPtr := rfl
@[simp] theorem State.setDecoder_store (x : Decoder) : (s.setDecoder x).store = s.store := rfl
@[simp] theorem State.setDecoder_reports (x : Decoder) : (s.setDecoder x).reports = s.reports := rfl
@[simp] theorem State.setDecoder_watches (x : Decoder) : (s.setDecoder x).watches = s.watches := rfl
@[simp] theorem State.setDecoder_banks (x : Decoder) : (s.setDecoder x).banks = s.banks := rfl
@[simp] theorem State.setDecoder_stream (x : Decoder) (i : StreamIx) : (s.setDecoder x).stream i = s.stream i := rfl
@[simp] theorem State.setDecoder_channel (x : Decoder) (i : ChanIx) : (s.setDecoder x).channel i = s.channel i := rfl
@[simp] theorem State.setDecoder_engine (x : Decoder) (i : EngineIx) : (s.setDecoder x).engine i = s.engine i := rfl
@[simp] theorem State.setDecoder_watch (x : Decoder) (i : ChanIx) : (s.setDecoder x).watch i = s.watch i := rfl
@[simp] theorem State.setDecoder_bank (x : Decoder) (i : BankIx) : (s.setDecoder x).bank i = s.bank i := rfl
@[simp] theorem State.setDecoder_head (x : Decoder) (i : ChanIx) : (s.setDecoder x).head i = s.head i := rfl

/-! ### setFaultPending -/

@[simp] theorem State.setFaultPending_pending (b : BankIx) (p : Bool) : (s.setFaultPending b p).pending = s.pending := rfl
@[simp] theorem State.setFaultPending_late (b : BankIx) (p : Bool) : (s.setFaultPending b p).late = s.late := rfl
@[simp] theorem State.setFaultPending_stage (b : BankIx) (p : Bool) : (s.setFaultPending b p).stage = s.stage := rfl
@[simp] theorem State.setFaultPending_link (b : BankIx) (p : Bool) : (s.setFaultPending b p).link = s.link := rfl
@[simp] theorem State.setFaultPending_decoder (b : BankIx) (p : Bool) : (s.setFaultPending b p).decoder = s.decoder := rfl
@[simp] theorem State.setFaultPending_streams (b : BankIx) (p : Bool) : (s.setFaultPending b p).streams = s.streams := rfl
@[simp] theorem State.setFaultPending_nextTag (b : BankIx) (p : Bool) : (s.setFaultPending b p).nextTag = s.nextTag := rfl
@[simp] theorem State.setFaultPending_channels (b : BankIx) (p : Bool) : (s.setFaultPending b p).channels = s.channels := rfl
@[simp] theorem State.setFaultPending_engines (b : BankIx) (p : Bool) : (s.setFaultPending b p).engines = s.engines := rfl
@[simp] theorem State.setFaultPending_grantPtr (b : BankIx) (p : Bool) : (s.setFaultPending b p).grantPtr = s.grantPtr := rfl
@[simp] theorem State.setFaultPending_store (b : BankIx) (p : Bool) : (s.setFaultPending b p).store = s.store := rfl
@[simp] theorem State.setFaultPending_watches (b : BankIx) (p : Bool) : (s.setFaultPending b p).watches = s.watches := rfl
@[simp] theorem State.setFaultPending_banks (b : BankIx) (p : Bool) : (s.setFaultPending b p).banks = s.banks := rfl
@[simp] theorem State.setFaultPending_stream (b : BankIx) (p : Bool) (i : StreamIx) : (s.setFaultPending b p).stream i = s.stream i := rfl
@[simp] theorem State.setFaultPending_channel (b : BankIx) (p : Bool) (i : ChanIx) : (s.setFaultPending b p).channel i = s.channel i := rfl
@[simp] theorem State.setFaultPending_engine (b : BankIx) (p : Bool) (i : EngineIx) : (s.setFaultPending b p).engine i = s.engine i := rfl
@[simp] theorem State.setFaultPending_watch (b : BankIx) (p : Bool) (i : ChanIx) : (s.setFaultPending b p).watch i = s.watch i := rfl
@[simp] theorem State.setFaultPending_bank (b : BankIx) (p : Bool) (i : BankIx) : (s.setFaultPending b p).bank i = s.bank i := rfl
@[simp] theorem State.setFaultPending_head (b : BankIx) (p : Bool) (i : ChanIx) : (s.setFaultPending b p).head i = s.head i := rfl

/-! ### setWatchPending -/

@[simp] theorem State.setWatchPending_pending (c : ChanIx) (t : Option Nat) : (s.setWatchPending c t).pending = s.pending := rfl
@[simp] theorem State.setWatchPending_late (c : ChanIx) (t : Option Nat) : (s.setWatchPending c t).late = s.late := rfl
@[simp] theorem State.setWatchPending_stage (c : ChanIx) (t : Option Nat) : (s.setWatchPending c t).stage = s.stage := rfl
@[simp] theorem State.setWatchPending_link (c : ChanIx) (t : Option Nat) : (s.setWatchPending c t).link = s.link := rfl
@[simp] theorem State.setWatchPending_decoder (c : ChanIx) (t : Option Nat) : (s.setWatchPending c t).decoder = s.decoder := rfl
@[simp] theorem State.setWatchPending_streams (c : ChanIx) (t : Option Nat) : (s.setWatchPending c t).streams = s.streams := rfl
@[simp] theorem State.setWatchPending_nextTag (c : ChanIx) (t : Option Nat) : (s.setWatchPending c t).nextTag = s.nextTag := rfl
@[simp] theorem State.setWatchPending_channels (c : ChanIx) (t : Option Nat) : (s.setWatchPending c t).channels = s.channels := rfl
@[simp] theorem State.setWatchPending_engines (c : ChanIx) (t : Option Nat) : (s.setWatchPending c t).engines = s.engines := rfl
@[simp] theorem State.setWatchPending_grantPtr (c : ChanIx) (t : Option Nat) : (s.setWatchPending c t).grantPtr = s.grantPtr := rfl
@[simp] theorem State.setWatchPending_store (c : ChanIx) (t : Option Nat) : (s.setWatchPending c t).store = s.store := rfl
@[simp] theorem State.setWatchPending_watches (c : ChanIx) (t : Option Nat) : (s.setWatchPending c t).watches = s.watches := rfl
@[simp] theorem State.setWatchPending_banks (c : ChanIx) (t : Option Nat) : (s.setWatchPending c t).banks = s.banks := rfl
@[simp] theorem State.setWatchPending_stream (c : ChanIx) (t : Option Nat) (i : StreamIx) : (s.setWatchPending c t).stream i = s.stream i := rfl
@[simp] theorem State.setWatchPending_channel (c : ChanIx) (t : Option Nat) (i : ChanIx) : (s.setWatchPending c t).channel i = s.channel i := rfl
@[simp] theorem State.setWatchPending_engine (c : ChanIx) (t : Option Nat) (i : EngineIx) : (s.setWatchPending c t).engine i = s.engine i := rfl
@[simp] theorem State.setWatchPending_watch (c : ChanIx) (t : Option Nat) (i : ChanIx) : (s.setWatchPending c t).watch i = s.watch i := rfl
@[simp] theorem State.setWatchPending_bank (c : ChanIx) (t : Option Nat) (i : BankIx) : (s.setWatchPending c t).bank i = s.bank i := rfl
@[simp] theorem State.setWatchPending_head (c : ChanIx) (t : Option Nat) (i : ChanIx) : (s.setWatchPending c t).head i = s.head i := rfl

/-! ### modJob -/

@[simp] theorem State.modJob_pending (c : ChanIx) (tag : Nat) (f : Job → Job) : (s.modJob c tag f).pending = s.pending := rfl
@[simp] theorem State.modJob_late (c : ChanIx) (tag : Nat) (f : Job → Job) : (s.modJob c tag f).late = s.late := rfl
@[simp] theorem State.modJob_stage (c : ChanIx) (tag : Nat) (f : Job → Job) : (s.modJob c tag f).stage = s.stage := rfl
@[simp] theorem State.modJob_link (c : ChanIx) (tag : Nat) (f : Job → Job) : (s.modJob c tag f).link = s.link := rfl
@[simp] theorem State.modJob_decoder (c : ChanIx) (tag : Nat) (f : Job → Job) : (s.modJob c tag f).decoder = s.decoder := rfl
@[simp] theorem State.modJob_streams (c : ChanIx) (tag : Nat) (f : Job → Job) : (s.modJob c tag f).streams = s.streams := rfl
@[simp] theorem State.modJob_nextTag (c : ChanIx) (tag : Nat) (f : Job → Job) : (s.modJob c tag f).nextTag = s.nextTag := rfl
@[simp] theorem State.modJob_engines (c : ChanIx) (tag : Nat) (f : Job → Job) : (s.modJob c tag f).engines = s.engines := rfl
@[simp] theorem State.modJob_grantPtr (c : ChanIx) (tag : Nat) (f : Job → Job) : (s.modJob c tag f).grantPtr = s.grantPtr := rfl
@[simp] theorem State.modJob_store (c : ChanIx) (tag : Nat) (f : Job → Job) : (s.modJob c tag f).store = s.store := rfl
@[simp] theorem State.modJob_reports (c : ChanIx) (tag : Nat) (f : Job → Job) : (s.modJob c tag f).reports = s.reports := rfl
@[simp] theorem State.modJob_watches (c : ChanIx) (tag : Nat) (f : Job → Job) : (s.modJob c tag f).watches = s.watches := rfl
@[simp] theorem State.modJob_banks (c : ChanIx) (tag : Nat) (f : Job → Job) : (s.modJob c tag f).banks = s.banks := rfl
@[simp] theorem State.modJob_stream (c : ChanIx) (tag : Nat) (f : Job → Job) (i : StreamIx) : (s.modJob c tag f).stream i = s.stream i := rfl
@[simp] theorem State.modJob_engine (c : ChanIx) (tag : Nat) (f : Job → Job) (i : EngineIx) : (s.modJob c tag f).engine i = s.engine i := rfl
@[simp] theorem State.modJob_watch (c : ChanIx) (tag : Nat) (f : Job → Job) (i : ChanIx) : (s.modJob c tag f).watch i = s.watch i := rfl
@[simp] theorem State.modJob_bank (c : ChanIx) (tag : Nat) (f : Job → Job) (i : BankIx) : (s.modJob c tag f).bank i = s.bank i := rfl

/-! ### Reading an entry just written -/

@[simp] theorem State.setStream_stream (i j : StreamIx) (x : Stream) :
    (s.setStream i x).stream j = if j = i then x else s.stream j := by
  by_cases h : j = i
  · subst h; simp [State.setStream, State.stream, Vector.get_eq_getElem]
  · have h' : i.val ≠ j.val := fun e => h (Fin.ext e.symm)
    simp [State.setStream, State.stream, Vector.get_eq_getElem, h, h']

/-- Writing back the entry that stands changes nothing. -/
@[simp] theorem State.setStream_self (i : StreamIx) : s.setStream i (s.stream i) = s := by
  simp [State.setStream, State.stream, Vector.get_eq_getElem]

@[simp] theorem State.setChannel_channel (i j : ChanIx) (x : Channel) :
    (s.setChannel i x).channel j = if j = i then x else s.channel j := by
  by_cases h : j = i
  · subst h; simp [State.setChannel, State.channel, Vector.get_eq_getElem]
  · have h' : i.val ≠ j.val := fun e => h (Fin.ext e.symm)
    simp [State.setChannel, State.channel, Vector.get_eq_getElem, h, h']

/-- Writing back the entry that stands changes nothing. -/
@[simp] theorem State.setChannel_self (i : ChanIx) : s.setChannel i (s.channel i) = s := by
  simp [State.setChannel, State.channel, Vector.get_eq_getElem]

@[simp] theorem State.setEngine_engine (i j : EngineIx) (x : Engine) :
    (s.setEngine i x).engine j = if j = i then x else s.engine j := by
  by_cases h : j = i
  · subst h; simp [State.setEngine, State.engine, Vector.get_eq_getElem]
  · have h' : i.val ≠ j.val := fun e => h (Fin.ext e.symm)
    simp [State.setEngine, State.engine, Vector.get_eq_getElem, h, h']

/-- Writing back the entry that stands changes nothing. -/
@[simp] theorem State.setEngine_self (i : EngineIx) : s.setEngine i (s.engine i) = s := by
  simp [State.setEngine, State.engine, Vector.get_eq_getElem]

@[simp] theorem State.setWatch_watch (i j : ChanIx) (x : Watch) :
    (s.setWatch i x).watch j = if j = i then x else s.watch j := by
  by_cases h : j = i
  · subst h; simp [State.setWatch, State.watch, Vector.get_eq_getElem]
  · have h' : i.val ≠ j.val := fun e => h (Fin.ext e.symm)
    simp [State.setWatch, State.watch, Vector.get_eq_getElem, h, h']

/-- Writing back the entry that stands changes nothing. -/
@[simp] theorem State.setWatch_self (i : ChanIx) : s.setWatch i (s.watch i) = s := by
  simp [State.setWatch, State.watch, Vector.get_eq_getElem]

@[simp] theorem State.setBank_bank (i j : BankIx) (x : Bank) :
    (s.setBank i x).bank j = if j = i then x else s.bank j := by
  by_cases h : j = i
  · subst h; simp [State.setBank, State.bank, Vector.get_eq_getElem]
  · have h' : i.val ≠ j.val := fun e => h (Fin.ext e.symm)
    simp [State.setBank, State.bank, Vector.get_eq_getElem, h, h']

/-- Writing back the entry that stands changes nothing. -/
@[simp] theorem State.setBank_self (i : BankIx) : s.setBank i (s.bank i) = s := by
  simp [State.setBank, State.bank, Vector.get_eq_getElem]

/-- The report unit as a pending flag's update leaves it (R120). -/
@[simp] theorem State.setFaultPending_reports (b : BankIx) (p : Bool) :
    (s.setFaultPending b p).reports = { s.reports with faultPending := s.reports.faultPending.set b p } := rfl

/-- The report unit as a watch notice item's update leaves it (R121). -/
@[simp] theorem State.setWatchPending_reports (c : ChanIx) (t : Option Nat) :
    (s.setWatchPending c t).reports = { s.reports with watchPending := s.reports.watchPending.set c t } := rfl

/-- The channel sequencers as an update of one job leaves them: only that channel's queue can change. -/
theorem State.modJob_channel (c d : ChanIx) (tag : Nat) (f : Job → Job) :
    (s.modJob c tag f).channel d =
      if d = c then { s.channel c with queue := (s.channel c).queue.map (fun j => if j.tag = tag then f j else j) }
      else s.channel d := by
  simp [State.modJob]

/-- The head job after an update of the jobs of a tag. -/
theorem State.modJob_head (c d : ChanIx) (tag : Nat) (f : Job → Job) :
    (s.modJob c tag f).head d =
      if d = c then (s.head c).map (fun j => if j.tag = tag then f j else j) else s.head d := by
  by_cases h : d = c
  · subst h; simp [State.head, State.modJob_channel, List.head?_map]
  · simp [State.head, State.modJob_channel, h]

end Sys2Proof.Machine
end

