-- ==== Sys2Proof/Laws/Decoder.lean ====
section
/-! SUPPORT. What the Request Decoder makes of the oldest inbox frame: one lemma per way a request row can go. -/

namespace Sys2Proof.Machine

variable {s : State} {f : Frame} {kind : Byte} {role : ReplyRole} {owner : Frame → State → Answer}

@[simp] theorem State.popped_link (s : State) : s.popped.link = { s.link with inbox := s.link.inbox.tail } := rfl
@[simp] theorem State.popped_pending (s : State) : s.popped.pending = s.pending := rfl
@[simp] theorem State.popped_streams (s : State) : s.popped.streams = s.streams := rfl
@[simp] theorem State.popped_stream (s : State) (n : StreamIx) : s.popped.stream n = s.stream n := rfl
@[simp] theorem State.popped_channel (s : State) (c : ChanIx) : s.popped.channel c = s.channel c := rfl
@[simp] theorem State.popped_head (s : State) (c : ChanIx) : s.popped.head c = s.head c := rfl
@[simp] theorem State.popped_jobs (s : State) : s.popped.jobs = s.jobs := rfl
@[simp] theorem State.popped_engine (s : State) (e : EngineIx) : s.popped.engine e = s.engine e := rfl
@[simp] theorem State.popped_store (s : State) : s.popped.store = s.store := rfl
@[simp] theorem State.popped_reports (s : State) : s.popped.reports = s.reports := rfl
@[simp] theorem State.popped_watch (s : State) (c : ChanIx) : s.popped.watch c = s.watch c := rfl
@[simp] theorem State.popped_bank (s : State) (b : BankIx) : s.popped.bank b = s.bank b := rfl
@[simp] theorem State.popped_decoder (s : State) : s.popped.decoder = s.decoder := rfl
@[simp] theorem State.popped_nextTag (s : State) : s.popped.nextTag = s.nextTag := rfl

/-- The oldest inbox frame as the idle decoder takes it. -/
theorem State.taken_of_offers (h : s.offers f) : s.taken = some (f, s.popped) := by
  obtain ⟨hd, hi⟩ := h
  obtain ⟨rest, hr⟩ : ∃ rest, s.link.inbox = f :: rest := by
    cases hl : s.link.inbox with
    | nil => simp [hl] at hi
    | cons g rest => exact ⟨rest, by simpa [hl] using hi⟩
  simp [State.taken, hd, hr, State.popped, State.setLink]

/-- While the decoder is busy or the inbox is empty it takes nothing. -/
theorem State.taken_eq_none (h : s.decoder ≠ .idle ∨ s.link.inbox = []) : s.taken = none := by
  unfold State.taken
  rcases h with h | h
  · split <;> simp_all
  · simp [h]

/-- What is taken is the oldest inbox frame. -/
theorem State.taken_eq_some {g : Frame} {s' : State} (h : s.taken = some (g, s')) :
    s.decoder = .idle ∧ s.link.inbox.head? = some g ∧ s' = s.popped := by
  unfold State.taken at h
  split at h
  · simp only [Option.some.injEq, Prod.mk.injEq] at h
    simp_all [State.popped, State.setLink]
  · cases h

/-- A request that passes the generic checks is answered by its owner, from the state without the frame. -/
theorem State.serve_of_takes (h : s.takes kind f) :
    s.serve kind role owner = State.conclude role f false (owner f s.popped) := by
  obtain ⟨ho, hk, hl, hr⟩ := h
  simp [State.serve, State.taken_of_offers ho, hk, State.process, hl, hr]

/-- A length that the kind does not allow is answered BAD-LENGTH. -/
theorem State.serve_of_badLength (ho : s.offers f) (hk : f.kind = kind) (hl : lengthAllowed f = false) :
    s.serve kind role owner = s.answered f .ordinary .badLength [] := by
  simp [State.serve, State.taken_of_offers ho, hk, State.process, hl, State.buildReply, State.deliver,
    State.queueReply, State.setLink, State.setDecoder, State.popped, State.answered, Frame.reply, replyFrame]

/-- A reserved byte or bit that is set is answered BAD-FIELD. -/
theorem State.serve_of_reserved (ho : s.offers f) (hk : f.kind = kind) (hl : lengthAllowed f = true)
    (hr : reservedSet f = true) : s.serve kind role owner = s.answered f .ordinary .badField [] := by
  simp [State.serve, State.taken_of_offers ho, hk, State.process, hl, hr, State.buildReply, State.deliver,
    State.queueReply, State.setLink, State.setDecoder, State.popped, State.answered, Frame.reply, replyFrame]

/-- A request row has no effect while the decoder is busy or the oldest inbox frame is of another kind, or none. -/
theorem State.serve_of_wait (h : s.decoder ≠ .idle ∨ ∀ f, s.link.inbox.head? = some f → f.kind ≠ kind) :
    s.serve kind role owner = s := by
  unfold State.serve
  cases ht : s.taken with
  | none => rfl
  | some r =>
    obtain ⟨g, s'⟩ := r
    obtain ⟨hd, hi, -⟩ := State.taken_eq_some ht
    rcases h with h | h
    · exact absurd hd h
    · simp [h g hi]

/-- A reply built on the state without the frame is the answer to the frame taken. -/
@[simp] theorem State.conclude_now (u : State) (st : Status) (res : List Byte) :
    State.conclude role f false (.now st res u.popped) = u.answered f role st res := rfl

/-- A request held on the state without the frame. -/
@[simp] theorem State.conclude_later (u : State) (hold : Hold) :
    State.conclude role f false (.later hold u.popped) = u.holding f hold := rfl

/-- A reply built for a request held earlier. -/
theorem State.buildReply_ordinary (st : Status) (res : List Byte) :
    s.buildReply .ordinary f false st res = s.built f st res := rfl

/-- A list of checks refuses with the first that fails. -/
@[simp] theorem checked_cons (fails : Bool) (st : Status) (rest : List (Bool × Status)) (accept : Answer) :
    checked s ((fails, st) :: rest) accept = if fails then .now st [] s else checked s rest accept := by
  cases fails <;> rfl

/-- With no check left the request is carried out. -/
@[simp] theorem checked_nil (accept : Answer) : checked s [] accept = accept := rfl

end Sys2Proof.Machine
end

