-- ==== Sys2Proof/Laws/Frames.lean ====
section
/-! SUPPORT. What no operation of streams, jobs, engines, store, reports and banks touches: the queue of commands, the
stage, the decoder and the link. One lemma per operation; and what the read of an input word can do. -/

namespace Sys2Proof.Machine

/-- The part of the state that those operations leave as it is. -/
def State.aside (s : State) : List Instr × Stage × Decoder × Link := (s.pending, s.stage, s.decoder, s.link)

/-- Two states with the same part agree in each of its four components. -/
theorem State.aside_eq_iff {s t : State} :
    t.aside = s.aside ↔ t.pending = s.pending ∧ t.stage = s.stage ∧ t.decoder = s.decoder ∧ t.link = s.link := by
  simp [State.aside]

/-- A fold keeps what each of its steps keeps. -/
theorem aside_foldl {α : Type} {f : State → α → State} (step : ∀ (s : State) (a : α), (f s a).aside = s.aside) :
    ∀ (l : List α) (s : State), (l.foldl f s).aside = s.aside
  | [], _ => rfl
  | a :: l, s => (aside_foldl step l _).trans (step s a)

variable (s : State)

/-! ### Updates -/

@[simp] theorem State.setStream_aside (n : StreamIx) (x : Stream) : (s.setStream n x).aside = s.aside := rfl
@[simp] theorem State.setChannel_aside (c : ChanIx) (x : Channel) : (s.setChannel c x).aside = s.aside := rfl
@[simp] theorem State.setEngine_aside (e : EngineIx) (x : Engine) : (s.setEngine e x).aside = s.aside := rfl
@[simp] theorem State.setWatch_aside (c : ChanIx) (x : Watch) : (s.setWatch c x).aside = s.aside := rfl
@[simp] theorem State.setBank_aside (b : BankIx) (x : Bank) : (s.setBank b x).aside = s.aside := rfl
@[simp] theorem State.setStore_aside (x : Store) : (s.setStore x).aside = s.aside := rfl
@[simp] theorem State.setLate_aside (x : List Late) : (s.setLate x).aside = s.aside := rfl
@[simp] theorem State.setReports_aside (x : Reports) : (s.setReports x).aside = s.aside := rfl
@[simp] theorem State.modJob_aside (c : ChanIx) (t : Nat) (f : Job → Job) : (s.modJob c t f).aside = s.aside := rfl
@[simp] theorem State.setPart_aside (e : EngineIx) (p : Part) : (s.setPart e p).aside = s.aside := rfl
@[simp] theorem State.endSave_aside (e : EngineIx) : (s.endSave e).aside = s.aside := rfl
@[simp] theorem State.setHome_aside (n : StreamIx) (c : ChanIx) : (s.setHome n c).aside = s.aside := rfl
@[simp] theorem State.endWatch_aside (c : ChanIx) : (s.endWatch c).aside = s.aside := rfl
@[simp] theorem State.enterReport_aside (b : ReportBody) : (s.enterReport b).aside = s.aside := rfl
@[simp] theorem State.writeCopy_aside (n : StreamIx) (w : Which) (v : PartValue) :
    (s.writeCopy n w v).aside = s.aside := rfl
@[simp] theorem State.setFaultPending_aside (b : BankIx) (p : Bool) : (s.setFaultPending b p).aside = s.aside := rfl
@[simp] theorem State.setWatchPending_aside (c : ChanIx) (t : Option Nat) :
    (s.setWatchPending c t).aside = s.aside := rfl
@[simp] theorem State.formTail_aside (c : ChanIx) (n : StreamIx) : (s.formTail c n).aside = s.aside := rfl

@[simp] theorem State.progress_aside (c : ChanIx) : (s.progress c).aside = s.aside := by
  unfold State.progress
  split <;> simp

/-! ### Reports and banks -/

@[simp] theorem State.grantClaim_aside (c : Claim) : (s.grantClaim c).aside = s.aside := by
  cases c <;> rfl

@[simp] theorem State.grantStep_aside : s.grantStep.aside = s.aside := by
  unfold State.grantStep
  split
  · split <;> simp
  · rfl

/-- The engine's share of an arrival. -/
theorem trigger_aside (b : BankIx) (p : Bool) :
    (if h : b.val < 6 then
      if p then s.setEngine ⟨b.val, h⟩ { s.engine ⟨b.val, h⟩ with offlineDue := true } else s
    else s).aside = s.aside := by
  split
  · split <;> simp
  · rfl

@[simp] theorem State.arrive_aside (b : BankIx) (a : FaultRecord) : (s.arrive b a).aside = s.aside := by
  have h := trigger_aside (s.setBank b (countArrival b a (s.bank b))) b (givesTrigger b a (countArrival b a (s.bank b)))
  unfold State.arrive
  simp only
  by_cases hm : masked a (countArrival b a (s.bank b)) = true
  · simp only [if_pos hm]
    simpa using h
  · simp only [if_neg hm]
    by_cases hw : (recordArrival a (countArrival b a (s.bank b))).2 = true
    · simp only [hw, if_pos]
      simpa using h
    · simp only [hw]
      simpa using h

@[simp] theorem State.arriveContext_aside (e : EngineIx) (n : StreamIx) (tag : Option Nat) (l : ErrLevel) :
    (s.arriveContext e n tag l).aside = s.aside := by
  unfold State.arriveContext
  split <;> simp

/-! ### Contexts -/

@[simp] theorem State.dropResidents_aside (n : StreamIx) : (s.dropResidents n).aside = s.aside := by
  refine aside_foldl (fun s e => ?_) _ s
  show (match (s.engine e).part with
    | .resident n' _ _ => if n' = n then s.setEngine e (s.engine e).emptied else s
    | _ => s).aside = s.aside
  split
  · split <;> simp
  · rfl

@[simp] theorem State.enterFaulted_aside (n : StreamIx) : (s.enterFaulted n).aside = s.aside := by
  unfold State.enterFaulted
  simp only
  split <;> simp

@[simp] theorem State.savePart_aside (e : EngineIx) : (s.savePart e).1.aside = s.aside := by
  unfold State.savePart
  split
  · split
    · simp
    · simp only
      split <;> simp
  · simp

@[simp] theorem State.loadPart_aside (j : Job) (e : EngineIx) (w : Which) : (s.loadPart j e w).1.aside = s.aside := by
  unfold State.loadPart
  simp only
  split
  · simp
  · have key : ∀ k : Copy, (if k.level = .uncorrectable
        then (s.arriveContext e j.stream (some j.tag) k.level, false)
        else (((s.arriveContext e j.stream (some j.tag) k.level).writeCopy j.stream w k.value).setPart e
          (.working j.stream w k.value), true)).1.aside = s.aside := by
      intro k
      split <;> simp
    exact key _

@[simp] theorem State.loadParts_aside (j : Job) : (s.loadParts j).1.aside = s.aside := by
  unfold State.loadParts
  split
  · rfl
  · simp
  · rename_i e k _
    have h := s.loadPart_aside j e .primary
    split
    · rename_i heq
      rw [heq] at h
      simpa using h
    · rename_i heq
      rw [heq] at h
      exact h

/-! ### Jobs -/

@[simp] theorem State.setWorkers_aside (j : Job) (st : EngineState) : (s.setWorkers j st).aside = s.aside :=
  aside_foldl (f := fun s (ew : EngineIx × Which) => s.setEngine ew.1 { s.engine ew.1 with state := st })
    (fun _ _ => rfl) _ s

@[simp] theorem State.setPrimary_aside (j : Job) (st : EngineState) : (s.setPrimary j st).aside = s.aside := by
  unfold State.setPrimary
  split <;> simp

@[simp] theorem State.feedEngine_aside (v : Variant) (e : EngineIx) (b : Byte) :
    (s.feedEngine v e b).aside = s.aside := by
  unfold State.feedEngine
  split <;> simp

@[simp] theorem State.tapByte_aside (j : Job) (p : Profile) (flow : Tap) (b : Byte) :
    (s.tapByte j p flow b).aside = s.aside := by
  unfold State.tapByte
  split
  · split <;> simp
  · rfl

/-- The step of the primary's working copy: nothing where the job has no engines or its primary engine no working copy, else
that copy replaced (R29 to R35, R37). -/
theorem State.stepPrimary_cases (j : Job) (p : Profile) :
    s.stepPrimary j p = s ∨
      ∃ e k n w v, j.engines = some (e, k) ∧ (s.engine e).part = .working n w v ∧
        s.stepPrimary j p = s.setPart e (.working n w (j.nextPart p v)) := by
  unfold State.stepPrimary
  split
  · exact .inl rfl
  · rename_i e k he
    split
    · rename_i n w v hp
      exact .inr ⟨e, k, n, w, v, he, hp, rfl⟩
    · exact .inl rfl

@[simp] theorem State.stepPrimary_aside (j : Job) (p : Profile) : (s.stepPrimary j p).aside = s.aside := by
  obtain h | ⟨e, k, n, w, v, -, -, h⟩ := s.stepPrimary_cases j p <;> simp [h]

@[simp] theorem State.writeDue_aside (c : ChanIx) (j : Job) : (s.writeDue c j).aside = s.aside := by
  unfold State.writeDue
  split
  · simp only [State.progress_aside]
    split <;> simp
  · rfl

@[simp] theorem State.handOff_aside (blk : Nat) (c : ChanIx) (j : Job) : (s.handOff blk c j).aside = s.aside := by
  simp [State.handOff]

@[simp] theorem State.releaseBlock_aside (blk : Nat) : (s.releaseBlock blk).aside = s.aside := by
  unfold State.releaseBlock
  split <;> simp

@[simp] theorem State.freeBuffer_aside (h : Nat) : (s.freeBuffer h).aside = s.aside := by
  unfold State.freeBuffer
  simp only
  rw [aside_foldl (fun s blk => s.releaseBlock_aside blk)]
  rfl

@[simp] theorem State.leaveEngine_aside (finished : Bool) (ew : EngineIx × Which) :
    (s.leaveEngine finished ew).aside = s.aside := by
  unfold State.leaveEngine
  simp only
  cases (s.engine ew.1).part <;> cases (s.engine ew.1).binding <;> cases (s.engine ew.1).offlineDue <;>
    cases finished <;> simp

@[simp] theorem State.endBuffers_aside (j : Job) (finished : Bool) : (s.endBuffers j finished).aside = s.aside := by
  unfold State.endBuffers
  simp only
  split
  · split <;> simp
  · simp

@[simp] theorem State.endOne_aside (c : ChanIx) (st : JobState) (r : Reason) (j : Job) :
    (s.endOne c st r j).aside = s.aside := by
  have h : ∀ u : State, (j.workers.foldl (fun s ew => s.leaveEngine (st == .done) ew) u).aside = u.aside :=
    fun u => aside_foldl (fun s ew => s.leaveEngine_aside _ ew) _ u
  unfold State.endOne
  simp only
  split <;> split <;> simp [h]

@[simp] theorem State.cancelJobs_aside (c : ChanIx) (n : StreamIx) (r : Reason) :
    (s.cancelJobs c n r).aside = s.aside :=
  aside_foldl (fun s j => s.endOne_aside _ _ _ j) _ s

@[simp] theorem State.cascade_aside (c : ChanIx) (n : StreamIx) : (s.cascade c n).aside = s.aside := by
  simp [State.cascade]

@[simp] theorem State.releaseMark_aside (c : ChanIx) (n : StreamIx) : (s.releaseMark c n).aside = s.aside := by
  unfold State.releaseMark
  split
  · split <;> simp
  · rfl

@[simp] theorem State.endJob_aside (c : ChanIx) (st : JobState) (r : Reason) (j : Job) :
    (s.endJob c st r j).aside = s.aside := by
  unfold State.endJob
  simp only
  split <;> simp

@[simp] theorem State.saveResident_aside (e : EngineIx) : (s.saveResident e).aside = s.aside := by
  have h := s.savePart_aside e
  unfold State.saveResident
  split
  · rename_i heq
    rw [heq] at h
    simpa [State.cancelFaulted] using h
  · rename_i heq
    rw [heq] at h
    exact h

/-! ### Allocator and settling -/

/-- What a beginning LOADING does to the table copies: nothing, or one copy written in the job's own stream entry (R8, R11). -/
theorem State.beginCheckpoint_cases (j : Job) (ew : EngineIx × Which) :
    s.beginCheckpoint j ew = s ∨
      ∃ k : Copy, s.beginCheckpoint j ew = s.setStream j.stream ((s.stream j.stream).setCopy ew.2 k) := by
  by_cases hi : j.phase.initializing = true
  · exact .inr ⟨_, by simp only [State.beginCheckpoint, hi, if_true, State.writeCopy]; rfl⟩
  · cases hp : (s.engine ew.1).part with
    | resident m w k =>
      by_cases h : m = j.stream ∧ w = ew.2
      · obtain ⟨rfl, rfl⟩ := h
        exact .inr ⟨k, by simp [State.beginCheckpoint, hi, hp]⟩
      · exact .inl (by simp [State.beginCheckpoint, hi, hp, h])
    | none => exact .inl (by simp [State.beginCheckpoint, hi, hp])
    | working => exact .inl (by simp [State.beginCheckpoint, hi, hp])

@[simp] theorem State.beginCheckpoint_aside (j : Job) (ew : EngineIx × Which) :
    (s.beginCheckpoint j ew).aside = s.aside := by
  obtain h | ⟨k, h⟩ := s.beginCheckpoint_cases j ew <;> simp [h]

@[simp] theorem State.startEngine_aside (c : ChanIx) (j : Job) (ew : EngineIx × Which) :
    (s.startEngine c j ew).aside = s.aside := by
  simp [State.startEngine]

@[simp] theorem State.startLoading_aside (c : ChanIx) (j : Job) : (s.startLoading c j).aside = s.aside := by
  unfold State.startLoading
  split
  · rfl
  · simp only [State.setWatch_aside]
    rw [aside_foldl (fun s ew => s.startEngine_aside c j ew)]
    rfl

@[simp] theorem State.startCovered_aside (c : ChanIx) : (s.startCovered c).aside = s.aside := by
  unfold State.startCovered
  split
  · split <;> simp
  · rfl

@[simp] theorem State.grantChannel_aside (c : ChanIx) : (s.grantChannel c).aside = s.aside := by
  unfold State.grantChannel
  split
  · split
    · rfl
    · exact s.startLoading_aside c _
  · rfl

@[simp] theorem State.attempt_aside : s.attempt.aside = s.aside := by
  unfold State.attempt
  simp only
  rw [aside_foldl (fun s c => s.grantChannel_aside c), aside_foldl (fun s c => s.startCovered_aside c)]

@[simp] theorem State.noEngineTest_aside (c : ChanIx) : (s.noEngineTest c).aside = s.aside := by
  unfold State.noEngineTest
  split <;> simp

@[simp] theorem State.dealHead_aside (c : ChanIx) : (s.dealHead c).aside = s.aside := by
  unfold State.dealHead
  simp only
  split
  · rfl
  · split
    · split <;> simp
    · rfl

@[simp] theorem State.promoteHead_aside (c : ChanIx) : (s.promoteHead c).aside = s.aside := by
  unfold State.promoteHead
  split <;> simp

@[simp] theorem State.settleRound_aside : s.settleRound.aside = s.aside := by
  unfold State.settleRound
  simp only [State.grantStep_aside, State.attempt_aside]
  rw [aside_foldl (fun s c => s.noEngineTest_aside c), aside_foldl (fun s c => s.promoteHead_aside c),
    aside_foldl (fun s c => s.dealHead_aside c)]

theorem State.settleN_aside : ∀ (n : Nat) (s : State), (State.settleN n s).aside = s.aside
  | 0, _ => rfl
  | n + 1, s => by
    unfold State.settleN
    split
    · rw [State.settleN_aside n, State.settleRound_aside]
    · rfl

@[simp] theorem State.settle_aside : s.settle.aside = s.aside := State.settleN_aside _ s

/-! ### Reads of input words (R115) -/

/-- The read of an input word by its level: nothing, a correction with its arrival, or the arrival of the loss. -/
theorem State.readWord_cases (e : EngineIx) (tag h o : Nat) :
    s.store.levelOf h o = .clean ∧ s.readWord e tag h o = s ∨
    s.store.levelOf h o = .correctable ∧ s.readWord e tag h o =
      (s.setStore (s.store.correctAt h o)).arrive (engineBank e) (inputArrival .corrected tag h o) ∨
    s.store.levelOf h o = .uncorrectable ∧
      s.readWord e tag h o = s.arrive (engineBank e) (inputArrival .uncorrected tag h o) := by
  unfold State.readWord
  cases hl : s.store.levelOf h o <;> simp

@[simp] theorem State.readWord_aside (e : EngineIx) (tag h o : Nat) : (s.readWord e tag h o).aside = s.aside := by
  obtain ⟨-, h⟩ | ⟨-, h⟩ | ⟨-, h⟩ := s.readWord_cases e tag h o <;> rw [h] <;> simp

/-- A byte of a word read before is taken without a read. -/
theorem State.readInput_of_hasRead {e : EngineIx} {j : Job} {h o : Nat} (hr : j.hasRead e h o = true) :
    s.readInput e j h o = (s, some (s.store.readAt h o)) := by
  simp [State.readInput, hr]

/-- A byte of a word not read before: its read is made, and a loss gives no byte. -/
theorem State.readInput_of_not_hasRead {e : EngineIx} {j : Job} {h o : Nat} (hr : j.hasRead e h o = false) :
    s.readInput e j h o = (s.readWord e j.tag h o,
      if s.store.levelOf h o = .uncorrectable then none else some (s.store.readAt h o)) := by
  simp [State.readInput, hr]

/-- Once its read is noted a word has been read. -/
theorem Job.hasRead_noteRead (j : Job) (e : EngineIx) (h o : Nat) : (j.noteRead e h o).hasRead e h o = true := by
  simp only [Job.noteRead, Job.hasRead, List.contains_eq_mem, decide_eq_true_eq]
  split <;> simp_all

/-! ### Findings of the moment of a job's end (log 43) -/

@[simp] theorem State.faultTaken_aside (e : EngineIx) : (s.faultTaken e).aside = s.aside := rfl

@[simp] theorem State.dropDue_aside (e : EngineIx) : (s.dropDue e).aside = s.aside := by
  unfold State.dropDue
  split <;> simp

@[simp] theorem State.lateRead_aside (c : ChanIx) : (s.lateRead c).aside = s.aside := by
  unfold State.lateRead
  split
  · split <;> simp
  · rfl

@[simp] theorem State.lateFault_aside (e : EngineIx) : (s.lateFault e).aside = s.aside := by
  unfold State.lateFault
  split <;> simp

end Sys2Proof.Machine
end

