-- ==== Sys2Proof/Laws/Memory.lean ====
section
/-! SUPPORT. The sparse lists of the buffer store: a read after a write, and that every memory operation keeps their
canonical form. -/

namespace Sys2Proof.Machine

section Sparse

variable {α : Type} [DecidableEq α] {d : α} {bound : Nat}

/-- A list in canonical form: its head is in range and not the default, its tail rises above the head. -/
theorem sparseWf_cons {k : Nat} {v : α} {rest : List (Nat × α)} :
    sparseWf d bound ((k, v) :: rest) = true ↔
      k < bound ∧ v ≠ d ∧ (∀ cell ∈ rest, k < cell.1) ∧ sparseWf d bound rest = true := by
  simp [sparseWf, and_assoc]

omit [DecidableEq α] in
/-- An address below every entry reads as the default. -/
theorem sparseGet_of_lt {k : Nat} : ∀ {m : List (Nat × α)}, (∀ cell ∈ m, k < cell.1) → sparseGet d m k = d
  | [], _ => rfl
  | (k', _) :: rest, h => by
    have hk : k < k' := h (k', _) (List.mem_cons_self ..)
    simp only [sparseGet, if_neg (Nat.ne_of_lt hk)]
    exact sparseGet_of_lt (fun cell hc => h cell (by simp [hc]))

/-- The addresses of a list after a write are the written one and those listed before. -/
theorem sparseSet_mem {k : Nat} {v : α} {cell : Nat × α} :
    ∀ {m : List (Nat × α)}, cell ∈ sparseSet d m k v → cell.1 = k ∨ cell ∈ m
  | [], h => by
    unfold sparseSet at h
    split at h <;> simp_all
  | (k', v') :: rest, h => by
    unfold sparseSet at h
    split at h
    · split at h
      · exact Or.inr h
      · rcases List.mem_cons.1 h with h | h
        · simp [h]
        · exact Or.inr h
    · split at h
      · split at h
        · exact Or.inr (List.mem_cons_of_mem _ h)
        · rcases List.mem_cons.1 h with h | h
          · simp [h]
          · exact Or.inr (List.mem_cons_of_mem _ h)
      · rcases List.mem_cons.1 h with h | h
        · simp [h]
        · rcases sparseSet_mem h with h | h <;> simp [h]

/-- A write of an address in range keeps the canonical form; so does a write of the default, wherever it goes. -/
theorem sparseSet_wf {k : Nat} {v : α} (hk : k < bound ∨ v = d) :
    ∀ {m : List (Nat × α)}, sparseWf d bound m = true → sparseWf d bound (sparseSet d m k v) = true
  | [], _ => by
    unfold sparseSet
    split
    · rfl
    · rw [sparseWf_cons]
      exact ⟨hk.resolve_right ‹_›, ‹_›, by simp, rfl⟩
  | (k', v') :: rest, h => by
    have h' := sparseWf_cons.1 h
    unfold sparseSet
    split
    · split
      · exact h
      · rw [sparseWf_cons]
        refine ⟨hk.resolve_right ‹_›, ‹_›, ?_, h⟩
        intro cell hc
        rcases List.mem_cons.1 hc with hc | hc
        · simp [hc]; assumption
        · exact Nat.lt_trans ‹_› (h'.2.2.1 cell hc)
    · split
      · split
        · exact h'.2.2.2
        · rw [sparseWf_cons]
          exact ⟨hk.resolve_right ‹_›, ‹_›, fun cell hc => by have := h'.2.2.1 cell hc; omega, h'.2.2.2⟩
      · rw [sparseWf_cons]
        refine ⟨h'.1, h'.2.1, ?_, sparseSet_wf hk h'.2.2.2⟩
        intro cell hc
        rcases sparseSet_mem hc with hc | hc
        · omega
        · exact h'.2.2.1 cell hc

/-- A read after a write of the same address gives the value written; every other address reads as before. -/
theorem sparseGet_sparseSet {k a : Nat} {v : α} :
    ∀ {m : List (Nat × α)}, sparseWf d bound m = true →
      sparseGet d (sparseSet d m k v) a = if a = k then v else sparseGet d m a
  | [], _ => by
    unfold sparseSet
    split <;> simp_all [sparseGet]
  | (k', v') :: rest, h => by
    have h' := sparseWf_cons.1 h
    unfold sparseSet
    split
    · split
      · by_cases ha : a = k
        · subst ha
          rw [if_pos rfl, sparseGet_of_lt, ‹v = d›]
          intro cell hc
          rcases List.mem_cons.1 hc with hc | hc
          · simp [hc]; assumption
          · exact Nat.lt_trans ‹_› (h'.2.2.1 cell hc)
        · simp [ha]
      · simp [sparseGet]
    · split
      · rename_i hkk
        subst hkk
        split
        · by_cases ha : a = k
          · subst ha
            rw [if_pos rfl, sparseGet_of_lt h'.2.2.1, ‹v = d›]
          · simp [sparseGet, ha]
        · by_cases ha : a = k <;> simp [sparseGet, ha]
      · have ih := sparseGet_sparseSet (k := k) (a := a) (v := v) h'.2.2.2
        by_cases ha : a = k'
        · have : a ≠ k := by omega
          simp [sparseGet, ha]
          omega
        · simp [sparseGet, ha, ih]

/-- Dropping entries keeps the canonical form. -/
theorem sparseDrop_wf {p : Nat → Bool} :
    ∀ {m : List (Nat × α)}, sparseWf d bound m = true → sparseWf d bound (sparseDrop p m) = true
  | [], _ => rfl
  | (k, v) :: rest, h => by
    have h' := sparseWf_cons.1 h
    have ih : sparseWf d bound (sparseDrop p rest) = true := sparseDrop_wf h'.2.2.2
    unfold sparseDrop
    rw [List.filter_cons]
    split
    · rw [sparseWf_cons]
      exact ⟨h'.1, h'.2.1, fun cell hc => h'.2.2.1 cell (List.mem_of_mem_filter hc), ih⟩
    · exact ih

omit [DecidableEq α] in
/-- After entries are dropped, the addresses picked read as the default and the others as before. -/
theorem sparseGet_sparseDrop {p : Nat → Bool} {a : Nat} :
    ∀ {m : List (Nat × α)}, sparseGet d (sparseDrop p m) a = if p a then d else sparseGet d m a
  | [] => by simp [sparseDrop, sparseGet]
  | (k, v) :: rest => by
    have ih : sparseGet d (sparseDrop p rest) a = if p a then d else sparseGet d rest a := sparseGet_sparseDrop
    unfold sparseDrop at ih ⊢
    rw [List.filter_cons]
    by_cases ha : a = k
    · subst ha
      by_cases hp : p a = true <;> simp [hp, sparseGet, ih]
    · by_cases hp : p k = true <;> simp [hp, sparseGet, ih, ha]

end Sparse

/-! ### Every operation of the buffer store -/

variable {st : Store}

/-- The store's memory right after Power-on is in canonical form. -/
theorem reset_canonical : State.reset.store.canonical := by decide

theorem Store.setLevel_canonical {w : Nat} {l : ErrLevel} (h : st.canonical) (hw : w < 4096 ∨ l = .clean) :
    (st.setLevel w l).canonical :=
  ⟨h.1, sparseSet_wf hw h.2⟩

theorem Store.zeroWord_canonical {w : Nat} (h : st.canonical) : (st.zeroWord w).canonical :=
  ⟨(sparseDrop_wf h.1 : sparseWf 0 32768 (sparseDrop (fun a => a / 8 == w) st.mem) = true), h.2⟩

theorem Store.storeByte_canonical {a : Nat} {v : Byte} (h : st.canonical) (ha : a < 32768) :
    (st.storeByte a v).canonical := by
  have hz : (if st.levelAt (a / 8) = .uncorrectable then st.zeroWord (a / 8) else st).canonical := by
    split
    · exact Store.zeroWord_canonical h
    · exact h
  exact ⟨sparseSet_wf (Or.inl ha) hz.1, sparseSet_wf (Or.inr rfl) hz.2⟩

theorem Store.writeAt_canonical {h o : Nat} {v : Byte} (hc : st.canonical) : (st.writeAt h o v).canonical := by
  unfold Store.writeAt
  split
  · split
    · exact Store.storeByte_canonical hc ‹_›
    · exact hc
  · exact hc

theorem Store.writeBytes_canonical {h : Nat} : ∀ (bs : List Byte) (o : Nat) (st : Store), st.canonical →
    (st.writeBytes h o bs).canonical
  | [], _, _, hc => hc
  | _ :: bs, _, _, hc => Store.writeBytes_canonical bs _ _ (Store.writeAt_canonical hc)

theorem Store.correctAt_canonical {h o : Nat} (hc : st.canonical) : (st.correctAt h o).canonical := by
  unfold Store.correctAt
  split
  · exact Store.setLevel_canonical hc (Or.inr rfl)
  · exact hc

theorem Store.clearBlock_canonical {blk : Nat} (h : st.canonical) : (st.clearBlock blk).canonical :=
  ⟨(sparseDrop_wf h.1 : sparseWf 0 32768 (sparseDrop (fun a => a / 64 == blk) st.mem) = true),
    (sparseDrop_wf h.2 : sparseWf .clean 4096 (sparseDrop (fun w => w / 8 == blk) st.levels) = true)⟩

theorem Store.setBuffer_canonical {h : Nat} {b : Buffer} (hc : st.canonical) : (st.setBuffer h b).canonical := by
  unfold Store.setBuffer
  split <;> exact hc

theorem Store.appendBlock_canonical {h blk : Nat} (hc : st.canonical) : (st.appendBlock h blk).canonical :=
  Store.setBuffer_canonical (Store.clearBlock_canonical hc)

theorem Store.takeBlock_canonical {h : Nat} (hc : st.canonical) : (st.takeBlock h).canonical := by
  unfold Store.takeBlock
  split
  · exact hc
  · exact Store.appendBlock_canonical hc

theorem Store.takeBlocks_canonical {h : Nat} : ∀ (n : Nat) (st : Store), st.canonical →
    (st.takeBlocks h n).canonical
  | 0, _, hc => hc
  | n + 1, _, hc => Store.takeBlocks_canonical n _ (Store.takeBlock_canonical hc)

/-! ### Reads after writes -/

/-- The byte written is read back, and every other byte of a readable word, and of every other word, is as before. -/
theorem Store.byteAt_storeByte {a p : Nat} {v : Byte} (h : st.canonical) (hl : st.levelAt (a / 8) ≠ .uncorrectable) :
    (st.storeByte a v).byteAt p = if p = a then v else st.byteAt p := by
  simp only [Store.storeByte, if_neg hl, Store.byteAt]
  exact sparseGet_sparseSet h.1

/-- A store cleans the word it covers and leaves every other word's level. -/
theorem Store.levelAt_storeByte {a w : Nat} {v : Byte} (h : st.canonical) :
    (st.storeByte a v).levelAt w = if w = a / 8 then .clean else st.levelAt w := by
  simp only [Store.storeByte]
  split <;> exact sparseGet_sparseSet h.2

/-- A cleared block reads 00H, the others as before (R99). -/
theorem Store.byteAt_clearBlock {blk p : Nat} :
    (st.clearBlock blk).byteAt p = if p / 64 = blk then 0 else st.byteAt p := by
  simp only [Store.clearBlock, Store.byteAt]
  rw [sparseGet_sparseDrop]
  by_cases hp : p / 64 = blk <;> simp [hp]

/-- A cleared block's words are clean, the others as before (R99). -/
theorem Store.levelAt_clearBlock {blk w : Nat} :
    (st.clearBlock blk).levelAt w = if w / 8 = blk then .clean else st.levelAt w := by
  simp only [Store.clearBlock, Store.levelAt]
  rw [sparseGet_sparseDrop]
  by_cases hp : w / 8 = blk <;> simp [hp]

end Sys2Proof.Machine
end

