-- ==== Sys2Proof/Laws/Settle.lean ====
section
/-! SUPPORT. When sequencers, allocator and slot arbiter have nothing to do, and time that does not pass. -/

namespace Sys2Proof.Machine

variable {s : State}

/-- A settled state is left as it is. -/
theorem State.settle_of_settled (h : s.unsettled = false) : s.settle = s := by
  simp [State.settle, State.settleN, h]

/-- A property that every round keeps is kept by settling. -/
theorem State.settleN_induction {P : State → Prop} (round : ∀ s, P s → P s.settleRound) :
    ∀ (n : Nat) (s : State), P s → P (State.settleN n s)
  | 0, _, h => h
  | n + 1, s, h => by
    unfold State.settleN
    split
    · exact State.settleN_induction round n _ (round s h)
    · exact h

/-- A property that every round keeps is kept by settling. -/
theorem State.settle_induction {P : State → Prop} (round : ∀ s, P s → P s.settleRound) (h : P s) : P s.settle :=
  State.settleN_induction round _ _ h

/-- A fold over a fixed list keeps what each of its steps keeps. -/
theorem foldl_keeps {α β : Type} {P : β → Prop} {f : β → α → β} (keep : ∀ s a, P s → P (f s a)) :
    ∀ (l : List α) (s : β), P s → P (l.foldl f s)
  | [], _, h => h
  | a :: l, s, h => foldl_keeps keep l _ (keep s a h)

/-- A fold whose steps change nothing changes nothing. -/
theorem foldl_id {α β : Type} {f : β → α → β} {s : β} : ∀ (l : List α), (∀ a ∈ l, f s a = s) → l.foldl f s = s
  | [], _ => rfl
  | a :: l, h => by
    rw [List.foldl_cons, h a (by simp)]
    exact foldl_id l (fun b hb => h b (by simp [hb]))

/-- No WAITING head job: no channel can start. -/
theorem State.startable_eq_none {c : ChanIx} (h : s.headIn c .waiting = none) : s.startable c = none := by
  simp [State.startable, h]

/-- With no WAITING head job an allocation attempt changes nothing (R83). -/
theorem State.attempt_of_noWaiting (h : ∀ c, s.headIn c .waiting = none) : s.attempt = s := by
  have h1 : allChannels.foldl State.startCovered s = s :=
    foldl_id _ (fun c _ => by simp [State.startCovered, State.startable_eq_none (h c)])
  have h2 : (channelsFrom s.grantPtr).foldl State.grantChannel s = s :=
    foldl_id _ (fun c _ => by simp [State.grantChannel, State.startable_eq_none (h c)])
  simp [State.attempt, h1, h2]

/-- With the outbox full or no claim the arbiter grants nothing (R122). -/
theorem State.grantStep_of_canGrant (h : s.canGrant = false) : s.grantStep = s := by
  unfold State.canGrant at h
  unfold State.grantStep
  split
  · cases hc : s.firstClaim with
    | none => rfl
    | some c => simp_all
  · rfl

/-- With a full outbox nothing is granted. -/
theorem State.canGrant_of_full (h : s.reports.outbox.length = 16) : s.canGrant = false := by
  simp [State.canGrant, h]

/-- A timer after no time. -/
@[simp] theorem elapse_zero (t : Option Nat) : elapse 0 t = t := by cases t <;> rfl

/-- No time passes. -/
@[simp] theorem State.advance_zero : s.advance 0 = s := by
  have hw : ∀ (u : State) (c : ChanIx), u.setWatch c ((u.watch c).after 0) = u := fun u c => by
    have h : (u.watch c).after 0 = u.watch c := by simp [Watch.after]
    rw [h, State.setWatch_self]
  simp only [State.advance, elapse_zero]
  exact foldl_id _ (fun c _ => hw _ c)

/-- An expiry whose period has passed needs no more time. -/
theorem State.catchUp_of_le {t period : Nat} (h : period ≤ t) : s.catchUp (some t) period = s := by
  simp [State.catchUp, Nat.sub_eq_zero_of_le h]

end Sys2Proof.Machine
end

