-- ==== Sys2Proof/Laws/Store.lean ====
section
/-! SUPPORT. The free block, the handle table and the fields of frames: what each lookup finds, and that reading gives
back what was written. -/

namespace Sys2Proof.Machine

/-! ### The lowest free block (R99) -/

/-- What the search gives: with a number outside the list in its reach, it lies outside and every number before it inside. -/
theorem lowestOutside_spec (used : List Nat) : ∀ (n b : Nat), (∃ k, b ≤ k ∧ k < b + n ∧ k ∉ used) →
    lowestOutside used n b ∉ used ∧ lowestOutside used n b < b + n ∧
      ∀ k, b ≤ k → k < lowestOutside used n b → k ∈ used
  | 0, b, ⟨k, h1, h2, _⟩ => by omega
  | n + 1, b, ⟨k, h1, h2, h3⟩ => by
    unfold lowestOutside
    by_cases hb : b ∈ used
    · have hk : b + 1 ≤ k := by
        rcases Nat.lt_or_ge b k with h | h
        · exact h
        · exact absurd (Nat.le_antisymm h h1 ▸ hb) h3
      obtain ⟨p, q, r⟩ := lowestOutside_spec used n (b + 1) ⟨k, hk, by omega, h3⟩
      simp only [List.contains_iff_mem.mpr hb, if_true]
      refine ⟨p, by omega, fun i hi hl => ?_⟩
      rcases Nat.lt_or_ge b i with h | h
      · exact r i h hl
      · exact Nat.le_antisymm h hi ▸ hb
    · have hc : used.contains b = false := by simpa using hb
      simp only [hc]
      exact ⟨by simpa using hb, by simp, fun i hi hl => by simp at hl; omega⟩

/-- Fewer than 512 held blocks, each below 512 and none twice, leave one free. -/
theorem exists_free_of_length {used : List Nat} (hl : used.length < 512) : ∃ k, k < 512 ∧ k ∉ used := by
  by_contra h
  push Not at h
  have hsub : List.range 512 ⊆ used := fun k hk => h k (List.mem_range.mp hk)
  have := (List.nodup_range (n := 512)).subperm hsub |>.length_le
  rw [List.length_range] at this
  omega

/-- With a free block counted, the lowest free block is one of the 512, nobody holds it, and every lower one is held
(R99). -/
theorem Store.lowestFree_spec {st : Store} (h : st.blocksCounted) (hf : 0 < st.freeCount) :
    st.lowestFree ∉ st.heldBlocks ∧ st.lowestFree < 512 ∧ ∀ k, k < st.lowestFree → k ∈ st.heldBlocks := by
  obtain ⟨_, _, hc, _⟩ := h
  obtain ⟨k, hk, hn⟩ := exists_free_of_length (used := st.heldBlocks) (by omega)
  obtain ⟨p, q, r⟩ := lowestOutside_spec st.heldBlocks 512 0 ⟨k, Nat.zero_le k, by omega, hn⟩
  exact ⟨p, by simpa [Store.lowestFree] using q, fun i hi => r i (Nat.zero_le i) hi⟩

/-! ### The handle table (R100) -/

/-- The entry of a handle after one entry is replaced: handles 1 to 48 hold what is written, others stay FREE. -/
theorem Store.setBuffer_buffer (st : Store) (h g : Nat) (b : Buffer) :
    (st.setBuffer h b).buffer g = if g = h ∧ 1 ≤ h ∧ h ≤ 48 then b else st.buffer g := by
  cases h with
  | zero => simp [Store.setBuffer]
  | succ h =>
    cases g with
    | zero => simp [Store.buffer]
    | succ g =>
      simp only [Store.setBuffer, Store.buffer, Vector.getElem?_setIfInBounds]
      by_cases e : h = g
      · subst e
        by_cases hb : h < 48
        · simp [hb, Nat.succ_le_of_lt hb]
        · have : ¬ h + 1 ≤ 48 := by omega
          simp [hb, this]
      · have : ¬ g = h := fun x => e x.symm
        simp [e, this]

/-! ### Fields of payloads (R169) -/

/-- A 2-byte field read back. -/
theorem halfAt_halfBytes (v : Half) (rest : List Byte) : halfAt (halfBytes v ++ rest) 0 = v := by
  simp only [halfAt, halfBytes, byteAt, List.cons_append, List.getD_cons_succ, List.getD_cons_zero]
  ext i hi
  simp only [BitVec.getElem_append, BitVec.getElem_setWidth, BitVec.getLsbD_ushiftRight]
  split
  · simp [BitVec.getLsbD_eq_getElem hi]
  · rw [show 8 + (i - 8) = i by omega, BitVec.getLsbD_eq_getElem hi]

/-! ### Frames (R153, R156) -/

/-- The bytes of a frame after SYNC hold that frame. -/
theorem decodeStored_frame (f : Frame) (h : f.payload.length ≤ 240) :
    decodeStored (frameBody f ++ halfBytes (frameCheck (frameBody f))) = some f := by
  have hl : natAt (frameBody f ++ halfBytes (frameCheck (frameBody f))) 0 = f.payload.length := by
    simp only [natAt, byteAt, frameBody, byteOf, List.cons_append, List.getD_cons_zero, BitVec.toNat_ofNat]
    omega
  have hb : (frameBody f).length = 3 + f.payload.length := by simp [frameBody]; omega
  unfold decodeStored
  simp only [hl, ← hb, List.take_left, List.drop_left, if_true]
  congr 1
  simp [frameBody, byteAt]

end Sys2Proof.Machine
end

