-- ==== Sys2Proof/WellFormed.lean ====
section
/-! DEFINITION. Which terms of `Instr` stand for an event the part can meet. Channel, engine, block and word numbers are
in range by their types, so two checks remain. -/

namespace Sys2Proof

/-- A frame's completion is the arrival of at least its last byte, and at most of its 246 bytes (R153, R154). An error
event leaves a copy correctable or uncorrectable, never clean (R7). -/
def Instr.wellFormed : Instr → Bool
  | .frameReceived bytes => decide (1 ≤ bytes.length ∧ bytes.length ≤ 246)
  | .contextCopyErrorEvent _ level => decide (level ≠ .clean)
  | .powerOn | .resetnAssert | .resetnRelease | .startUpEnd _ | .gapTimerExpiry | .transmitFrameBegin |
    .frameSent | .unknownKindRequest | .linkOpen | .reset | .bufAlloc | .bufWrite | .bufRead | .bufFree |
    .bufInfo | .storeSet | .streamOpen | .streamClose | .streamReset | .streamQuery | .streamMove | .streamKey |
    .jobSubmit | .jobAbort | .channelSet | .channelQuery | .enginePin | .engineUnpin | .engineOffline |
    .engineRestore | .engineQuery | .reportAck | .reportSet | .watchSet | .faultRead | .faultClear |
    .faultMask | .saveEnd _ | .loadingEnd _ | .byteStep _ | .transformWorkEnd _ | .savingEnd _ |
    .engineSelfCheckFault _ | .scrubCompletion _ | .warnExpiry _ | .limitExpiry _ | .retryTimerExpiry |
    .inboundByte _ | .storedWordErrorEvent _ _ => true

end Sys2Proof
end

