-- ==== Sys2Proof/Tests/Slice0.lean ====
section
/-! SUPPORT. The model's own tests: the WellFormed smoke test, the spec's worked figures, and for every statement that has
hypotheses a witness: states and operands that meet them, clause by clause, with what the model then answers. -/

namespace Sys2Proof.Machine.Tests

set_option Elab.async false
set_option synthInstance.maxSize 3000

/-! ### Helpers -/

/-- Whether a command answers this next state. -/
def gives (c : Instr) (s t : State) : Bool :=
  match exec c s with
  | .next u => decide (u = t)
  | .fault _ => false
  | .refused _ => false

/-- The next state of a command. -/
def after (c : Instr) (s : State) : State :=
  match exec c s with
  | .next t => t
  | .fault _ => s
  | .refused _ => s

/-- The part running, its link OPEN, nothing else done. -/
def base : State := { State.reset with stage := .running, link := { resetLink with state := .opened } }

/-- A request frame. -/
def req (kind : Byte) (payload : List Byte) : Frame := { seq := 7, kind := kind, payload := payload }

/-- A state whose inbox holds one frame. -/
def asking (s : State) (f : Frame) : State := { s with link := { s.link with inbox := [f] } }

/-- A state with its link replaced. -/
def linked (l : Link) : State := { base with link := l }

/-- A report in an outbox, marked or not. -/
def aReport (n : Nat) (due : Bool) : Report :=
  { number := BitVec.ofNat 8 n, body := .watchNotice { channel := 0, tag := 1, jobState := .running, elapsed := 0 }
    sendDue := due }

/-- The outbox filled with 16 reports. -/
def filled (s : State) : State :=
  { s with reports := { s.reports with outbox := (List.range 16).map (aReport · false), nextNumber := 16 } }

/-- A DELTA profile of width 1, a RUN profile, a CRC16 CHECK profile. -/
def deltaP : Profile := { blankProfile with kind := .delta, deltaWidth := 1 }
def runP : Profile := { blankProfile with kind := .run, runMin := 3, runEscape := 0xAA }
def checkP : Profile := { blankProfile with kind := .check, crcInit := 0xFFFF }

/-- Stream 0 open on channel 0 in this state. -/
def streamed (p : Profile) (st : RecordState) (s : State) : State :=
  s.setStream 0 { openedStream 0 p with state := st, tail := st }

/-- A job of stream 0 with tag 9 on channel 0. -/
def aJob (st : JobState) (phase : Phase) : Job := { acceptedJob 9 0 0 phase false none [] 0 with state := st }

/-- Channel 0 holds these jobs; its progress timer runs. -/
def queued (js : List Job) (s : State) : State :=
  (s.setChannel 0 { emptyChannel with queue := js }).setWatch 0
    { resetWatch with timer := some 1000, clock := some 1000 }

/-- An engine in this state, dynamic on channel 0, with this part. -/
def engaged (e : EngineIx) (st : EngineState) (p : Part) (s : State) : State :=
  s.setEngine e { freshEngine with state := st, binding := .dynamic 0, part := p, job := some 9 }

/-- Handle 1 allocated with these blocks. -/
def stocked (size : Nat) (blocks : List Nat) (s : State) : State :=
  { s with store := { s.store.setBuffer 1 { freeBuffer with state := .allocated, size := size, blocks := blocks } with
      freeCount := 512 - blocks.length } }

/-! ### WellFormed smoke tests -/

theorem test_wellFormed_refuses_no_bytes : (Instr.frameReceived []).wellFormed = false := by decide
theorem test_wellFormed_refuses_too_many_bytes :
    (Instr.frameReceived (List.replicate 247 0)).wellFormed = false := by decide +kernel
theorem test_wellFormed_accepts_a_longest_frame :
    (Instr.frameReceived (List.replicate 246 0)).wellFormed = true := by decide +kernel
theorem test_wellFormed_refuses_a_clean_error :
    (Instr.contextCopyErrorEvent (.table 0 .primary) .clean).wellFormed = false := by decide

/-! ### The spec's worked figures -/

/-- Section 2.5.1: the CRC16 of 41H, and its verification. -/
theorem test_crc16_of_one_byte :
    checkValueOf checkP ((crc16Byte 0xFFFF 0x41).setWidth 32) = 0xB915 ∧
      verifyOf checkP (some 0x1234B915) 0xB915 = .isMatch ∧ verifyOf checkP (some 0xB914) 0xB915 = .mismatch := by
  decide

/-- Section 2.5.2: the CRC32 of 61H. -/
theorem test_crc32_of_one_byte :
    checkValueOf { checkP with variant := .crc32 } (crc32Byte 0xFFFFFFFF 0x61) = 0xE8B7BE43 := by decide +kernel

/-- Section 2.5.3: the DELTA output of 03H 05H 04H. -/
theorem test_delta_of_three_bytes : packRecord deltaP [0x03, 0x05, 0x04] = [0x03, 0x02, 0xFF] := by decide +kernel

/-- Section 2.2.2: DELTA of width 2 over one record of seven bytes. -/
theorem test_delta_of_width_two :
    packRecord { deltaP with deltaWidth := 2, deltaBase := 0x0100 } [0x10, 0x01, 0x20, 0x01, 0x05, 0x01, 0x7F] =
      [0x10, 0x00, 0x10, 0x00, 0xE5, 0xFF, 0x7F] := by decide +kernel

/-- Section 2.3.1: a RUN record with the escape byte among its data. -/
theorem test_run_with_its_escape_byte :
    packRecord { runP with runMin := 4 } [1, 1, 0xAA, 5, 5, 5, 5, 5, 5, 5, 7] =
      [1, 1, 0xAA, 0xFF, 0xAA, 0x03, 5, 7] := by decide +kernel

/-- Section 2.3.2: a run at its longest, and one flushed at the minimum. -/
theorem test_run_at_its_longest :
    consumeByte runP (.run (some (0x41, 256))) 0x41 = (.run none, [0xAA, 0xFE, 0x41]) ∧
      packRecord runP [0x41, 0x41, 0x41] = [0xAA, 0x00, 0x41] := by decide +kernel

/-- Section 2.4.1: WHITEN with seed 0001H. -/
theorem test_whiten_with_seed_one :
    packRecord { blankProfile with kind := .whiten, whitenSeed := 1 } [0x41, 0x42, 0x43] = [0x40, 0x42, 0x42] := by
  decide +kernel

/-- R153: the bytes of a LINK OPEN with SEQ 00H. -/
theorem test_bytes_of_a_link_open :
    encodeFrame { seq := 0, kind := 1, payload := [] } = [0xC3, 0x00, 0x00, 0x01, 0xBD, 0xDC] := by decide +kernel

/-- The table gives no row bits, so no word spells a command. -/
theorem test_no_word_spells_a_command : decodeTableWord 8 0x20 = none ∧ base.withFetchWord 8 0x20 = base := ⟨rfl, rfl⟩

/-! ### Witnesses: steps, resets, frames -/

theorem witness_idle_step : base.pending = [] := rfl

theorem witness_start_up :
    { base with stage := .held }.stage = .held ∧ State.reset.stage = .startUp ∧
      (∀ c, State.reset.channel c = emptyChannel) ∧ (∀ b, State.reset.reports.faultPending.get b = false) ∧
      (∀ c, State.reset.reports.watchPending.get c = none) ∧
      gives (.startUpEnd .high) State.reset
        { State.reset with stage := .running, link := { resetLink with form := .spi } } = true := by decide +kernel

theorem witness_encoded_frame :
    let f := req 0x11 [0xA5, 0xC3, 0x00]
    base.stage = .running ∧ base.link.receiver = .hunting ∧ f.payload.length ≤ 240 ∧
      (req 0x11 (List.replicate 240 0xA5)).payload.length ≤ 240 ∧
      gives (.frameReceived (encodeFrame f)) base { base with link := { base.link with resync := some .order } } =
        true := by decide +kernel

/-- The receiver in these stored bytes. -/
def inFrame (stored : List Byte) : State :=
  linked { base.link with receiver := .inFrame stored, gapTimer := some 5 }

theorem witness_receiver_rows :
    base.stage = .running ∧ base.link.receiver = .hunting ∧
      after (.inboundByte (.byte 0xC3)) base =
        linked { base.link with receiver := .inFrame [], gapTimer := some 0 } ∧
      after (.inboundByte (.byte 0xC2)) base = base ∧
      after (.inboundByte (.byte 240)) (inFrame []) =
        linked { base.link with receiver := .inFrame [240], gapTimer := some 0 } ∧
      after (.inboundByte (.byte 241)) (inFrame []) = base ∧
      after (.inboundByte (.byte 7)) (inFrame [0, 1, 2]) =
        linked { base.link with receiver := .inFrame [0, 1, 2, 7], gapTimer := some 0 } ∧
      base.link.form = .uart ∧ after (.inboundByte .badCharacter) (inFrame [0]) = base ∧
      (inFrame [0]).link.gapTimer = some 5 ∧ after .gapTimerExpiry (inFrame [0]) = base ∧
      (0 : Half) ≠ frameCheck (frameBody (req 0x01 [])) := by decide +kernel

/-- E is 0: SEQ 0 is accepted with 3 frames in the inbox and not with 4; SEQ 251 is five before E. -/
theorem witness_sequence_acceptance :
    let f : Frame := { seq := 0, kind := 0x13, payload := [1] }
    let s3 := linked { base.link with inbox := [f, f, f] }
    let s4 := linked { base.link with state := .quiet, inbox := [f, f, f, f] }
    s3.stage = .running ∧ s3.link.receiver = .hunting ∧ s3.link.gapTimer = none ∧ f.payload.length ≤ 240 ∧
      f.kind ≠ 0x01 ∧ s3.link.state ≠ .closed ∧ s4.link.state ≠ .closed ∧ f.seq = s3.link.expected ∧
      (after (.frameReceived (encodeFrame f)) s3).link = { s3.link with inbox := [f, f, f, f], expected := 1 } ∧
      (after (.frameReceived (encodeFrame f)) s4).link = { s4.link with state := .opened, resync := some .full } ∧
      (∀ k : Nat, k ≤ 4 → (251 : Byte) ≠ s3.link.expected - BitVec.ofNat 8 k) ∧
      (after (.frameReceived (encodeFrame { f with seq := 251 })) s3).link.resync = some .order := by decide +kernel

/-- SEQ 252 is four before E; its reply is cached and not waiting, cached and waiting, in progress, or gone. -/
theorem witness_duplicates :
    let f : Frame := { seq := 252, kind := 0x13, payload := [1] }
    let r := f.reply .ordinary .ok []
    let bytes := encodeFrame f
    let cached := linked { base.link with cache := [r] }
    let waiting := linked { base.link with cache := [r], replies := [r] }
    let busy := { base with decoder := .busy f .swapSave false }
    f.seq = base.link.expected - BitVec.ofNat 8 4 ∧ base.link.state = .opened ∧
      after (.frameReceived bytes) cached = linked { base.link with cache := [r], replies := [r] } ∧
      after (.frameReceived bytes) waiting = waiting ∧ after (.frameReceived bytes) busy = busy ∧
      after (.frameReceived bytes) base = linked { base.link with resync := some .order } := by decide +kernel

theorem witness_closed_link :
    let f : Frame := { seq := 0, kind := 0x13, payload := [1] }
    let r := f.reply .notOpen .notOpen []
    let s3 := linked { base.link with state := .closed, replies := [r, r, r] }
    let s4 := linked { base.link with state := .closed, replies := [r, r, r, r] }
    s3.link.state = .closed ∧ s3.link.receiver = .hunting ∧ s3.link.gapTimer = none ∧ f.kind ≠ 0x01 ∧
      after (.frameReceived (encodeFrame f)) s3 = s4 ∧ after (.frameReceived (encodeFrame f)) s4 = s4 := by
  decide +kernel

theorem witness_link_open :
    let f : Frame := { seq := 9, kind := 0x01, payload := [] }
    base.stage = .running ∧ base.link.receiver = .hunting ∧ base.link.gapTimer = none ∧
      after (.frameReceived (encodeFrame f)) base =
        linked { base.link with inbox := [f], expected := 10, holdReports := true } := by decide +kernel

/-! ### Witnesses: the transmitter and the timers -/

theorem witness_transmitter :
    let f : Frame := { seq := 1, kind := 0x80, payload := [] }
    let r : Reply := { frame := f, role := .ordinary }
    let notice := linked { base.link with resync := some .check, replies := [r] }
    let reply := linked { base.link with replies := [r] }
    let report (due : Bool) :=
      { base with reports := { freshReports with outbox := [aReport 0 false, aReport 1 due], nextNumber := 2 } }
    base.link.sending = none ∧
      (after .transmitFrameBegin notice).link.sending =
        some { source := .resync, frame := { seq := 0, kind := 0xA0, payload := [0x01] } } ∧
      after .transmitFrameBegin reply =
        linked { base.link with sending := some { source := .reply .ordinary, frame := f } } ∧
      (after .transmitFrameBegin (report true)).link.sending =
        some { source := .report 1, frame := reportFrame (aReport 1 true) } ∧
      after .transmitFrameBegin (report false) = report false ∧ (report true).attnAsserted = true ∧
      (report false).attnAsserted = false := by decide +kernel

theorem witness_frame_sent :
    let f : Frame := { seq := 1, kind := 0x80, payload := [] }
    let sending (src : Source) : State :=
      { linked { base.link with sending := some { source := src, frame := f }, holdReports := true } with
        reports := { freshReports with outbox := [aReport 5 true], nextNumber := 6 } }
    (after .frameSent (sending (.report 5))).reports.outbox = [aReport 5 false] ∧
      (after .frameSent (sending (.reply .linkOpen))).link.holdReports = false ∧
      after .frameSent (sending (.reply .reset)) = State.reset ∧
      after .frameSent (sending .resync) = { sending .resync with link := { base.link with holdReports := true } } := by
  decide +kernel

/-- The default period: 200 ms have passed on count 4 and on count 5. -/
theorem witness_retry_expiry :
    let s (count : Nat) : State := { base with reports := { freshReports with
      outbox := [aReport 0 false], nextNumber := 1, retryTimer := some 200, retryCount := count } }
    (s 4).reports.retryTimer = some 200 ∧ 10 * (s 4).reports.retryPeriod ≤ 200 ∧
      (after .retryTimerExpiry (s 4)).reports =
        { (s 4).reports with outbox := [aReport 0 true], retryTimer := some 0, retryCount := 5 } ∧
      (after .retryTimerExpiry (s 5)).link.state = .quiet ∧
      (after .retryTimerExpiry (s 5)).reports.retryTimer = none := by decide +kernel

/-! ### Witnesses: the Request Decoder -/

theorem witness_link_controller_requests :
    let f (k : Byte) := req k []
    (asking base (f 0x01)).takes 0x01 (f 0x01) ∧ (asking base (f 0x03)).takes 0x03 (f 0x03) ∧
      (asking base (f 0x02)).offers (f 0x02) ∧ (f 0x02).kind ∉ requestKinds ∧
      (after .linkOpen (asking base (f 0x01))).link.cache.map (·.frame.payload) =
        [[0x01, 0x00, 0x54, 0x46, 0x02, 4, 8, 16, 48, 0x00, 0x02, 64, 16, 4, 240, 0, 0]] ∧
      after .reset (asking base (f 0x03)) =
        { (asking base (f 0x03)).answered (f 0x03) .reset .ok [] with decoder := .resetting } ∧
      gives .unknownKindRequest (asking base (f 0x02)) ((asking base (f 0x02)).answered (f 0x02) .ordinary .unknownKind
        []) = true := by decide +kernel

theorem witness_generic_checks :
    let short := req 0x13 []
    let reserved := req 0x12 [1, 1, 0, 0, 1]
    requestKind .bufFree = some 0x13 ∧ (asking base short).offers short ∧ lengthAllowed short = false ∧
      gives .bufFree (asking base short) ((asking base short).answered short .ordinary .badLength []) = true ∧
      requestKind .bufRead = some 0x12 ∧ (asking base reserved).offers reserved ∧ lengthAllowed reserved = true ∧
      reservedSet reserved = true ∧
      gives .bufRead (asking base reserved) ((asking base reserved).answered reserved .ordinary .badField []) = true := by
  decide +kernel

theorem witness_refused_request :
    let f := req 0x13 [49]
    let s := asking base f
    let t := s.answered f .ordinary .badHandle []
    requestKind .bufFree = some 0x13 ∧ s.takes 0x13 f ∧ gives .bufFree s t = true ∧ t.decoder = .idle ∧
      t.link.cache.getLast? = some (f.reply .ordinary .badHandle []) ∧
      (f.reply .ordinary .badHandle []).frame.payload.take 2 = [0x13, statusCode .badHandle] := by decide +kernel

/-! ### Witnesses: the buffer store -/

/-- Every handle in use. -/
def noHandle : State :=
  { base with store := { base.store with handles := Vector.replicate 48 { freeBuffer with state := .allocated } } }

/-- Sizes 0, 4097, 1 and 4096; a free count that is just enough and one below. -/
theorem witness_buf_alloc :
    let f (n : Nat) := req 0x10 (numBytes n)
    let s (st : State) (n : Nat) := asking st (f n)
    let left (k : Nat) : State := { base with store := { base.store with reserve := k } }
    (s base 0).takes 0x10 (f 0) ∧ base.store.blocksCounted ∧ noHandle.store.blocksCounted ∧
      after .bufAlloc (s base 0) = (s base 0).answered (f 0) .ordinary .badField [] ∧
      after .bufAlloc (s base 4097) = (s base 4097).answered (f 4097) .ordinary .badField [] ∧
      after .bufAlloc (s (left 511) 65) = (s (left 511) 65).answered (f 65) .ordinary .noSpace [] ∧
      after .bufAlloc (s noHandle 1) = (s noHandle 1).answered (f 1) .ordinary .noHandle [] ∧
      (after .bufAlloc (s (left 510) 65)).store.buffer 1 =
        { freeBuffer with state := .allocated, size := 65, blocks := [0, 1] } ∧
      (after .bufAlloc (s (left 510) 65)).store.freeCount = 510 ∧ (stocked 8 [1] base).store.blocksCounted ∧
      ((after .bufAlloc (s (stocked 8 [1] base) 65)).store.buffer 2).blocks = [0, 2] := by decide +kernel

/-- A word that is uncorrectable, a buffer of 8 bytes on block 3. -/
def damaged : State :=
  { stocked 8 [3] base with store := { (stocked 8 [3] base).store with
      mem := [(192, 0x11), (193, 0x22)], levels := [(24, .uncorrectable)] } }

theorem witness_buf_write :
    let f (o : Nat) (data : List Byte) := req 0x11 ([1, 0] ++ numBytes o ++ data)
    let used := { damaged with store := damaged.store.setBuffer 1 { damaged.store.buffer 1 with useCount := 1 } }
    let s (st : State) (o : Nat) (data : List Byte) := asking st (f o data)
    (s damaged 1 [5]).takes 0x11 (f 1 [5]) ∧ damaged.store.blocksCounted ∧ damaged.store.canonical ∧
      after .bufWrite (s base 0 [5]) = (s base 0 [5]).answered (f 0 [5]) .ordinary .badHandle [] ∧
      after .bufWrite (s damaged 8 [5]) = (s damaged 8 [5]).answered (f 8 [5]) .ordinary .badRange [] ∧
      after .bufWrite (s used 7 [5]) = (s used 7 [5]).answered (f 7 [5]) .ordinary .locked [] ∧
      (after .bufWrite (s damaged 7 [5])).store.mem = [(199, 5)] ∧
      (after .bufWrite (s damaged 7 [5])).store.levels = [] := by decide +kernel

theorem witness_buf_read :
    let f (o n : Nat) := req 0x12 ([1, 0] ++ numBytes o ++ [BitVec.ofNat 8 n])
    let level (l : ErrLevel) : State := { damaged with store := damaged.store.setLevel 24 l }
    let locked : State :=
      { damaged with store := damaged.store.setBuffer 1 { damaged.store.buffer 1 with outputLocked := true } }
    let s (st : State) (o n : Nat) := asking st (f o n)
    (s damaged 0 1).takes 0x12 (f 0 1) ∧
      after .bufRead (s damaged 0 0) = (s damaged 0 0).answered (f 0 0) .ordinary .badField [] ∧
      after .bufRead (s damaged 0 237) = (s damaged 0 237).answered (f 0 237) .ordinary .badField [] ∧
      after .bufRead (s base 0 236) = (s base 0 236).answered (f 0 236) .ordinary .badHandle [] ∧
      after .bufRead (s damaged 8 1) = (s damaged 8 1).answered (f 8 1) .ordinary .badRange [] ∧
      after .bufRead (s locked 7 1) = (s locked 7 1).answered (f 7 1) .ordinary .locked [] ∧
      after .bufRead (s (level .clean) 0 2) =
        (s (level .clean) 0 2).answered (f 0 2) .ordinary .ok [0x11, 0x22] ∧
      (damaged.store.buffer 1).address 1 = some 193 ∧
      after .bufRead (s (level .correctable) 1 7) = ((s (level .clean) 1 7).arrive 6
        { severity := .corrected, kind := .blockData, site := some (.block 1 0), tag := none }).answered (f 1 7)
          .ordinary .ok [0x22, 0, 0, 0, 0, 0, 0] ∧
      damaged.store.levelOf 1 0 = .uncorrectable ∧
      after .bufRead (s damaged 0 1) = ((s damaged 0 1).arrive 6
        { severity := .uncorrected, kind := .blockData, site := some (.block 1 0), tag := none }).answered (f 0 1)
          .ordinary .dataError [] := by decide +kernel

/-- A correctable word, then an uncorrectable one; two correctable words. -/
theorem witness_buf_read_of_two_words :
    let f := req 0x12 [1, 0, 7, 0, 9]
    let s (second : ErrLevel) : State := asking { stocked 16 [3] base with store :=
      { (stocked 16 [3] base).store with mem := [(199, 0x77)], levels := [(24, .correctable), (25, second)] } } f
    let arrival (v : Severity) (w : Nat) : FaultRecord :=
      { severity := v, kind := .blockData, site := some (.block 1 w), tag := none }
    let cleaned (u : State) (w : Nat) : State := u.setStore (u.store.setLevel w .clean)
    (s .correctable).takes 0x12 f ∧ (s .correctable).store.blocksCounted ∧
      (s .uncorrectable).store.levelOf 1 0 ≠ .uncorrectable ∧ (s .uncorrectable).store.levelOf 1 8 = .uncorrectable ∧
      after .bufRead (s .uncorrectable) =
        (((cleaned (s .uncorrectable) 24).arrive 6 (arrival .corrected 0)).arrive 6
          (arrival .uncorrected 8)).answered f .ordinary .dataError [] ∧
      after .bufRead (s .correctable) =
        ((cleaned ((cleaned (s .correctable) 24).arrive 6 (arrival .corrected 0)) 25).arrive 6
          (arrival .corrected 8)).answered f .ordinary .ok [0x77, 0, 0, 0, 0, 0, 0, 0, 0] := by decide +kernel

theorem witness_buf_free :
    let f := req 0x13 [1]
    let s := asking damaged f
    let inUse := damaged.store.setBuffer 1 { damaged.store.buffer 1 with useCount := 1 }
    let used := asking { damaged with store := inUse } f
    s.takes 0x13 f ∧ ((asking base f).store.buffer 1).state = .free ∧
      after .bufFree (asking base f) = (asking base f).answered f .ordinary .badHandle [] ∧
      after .bufFree used = used.answered f .ordinary .locked [] ∧ (s.store.buffer 1).state = .allocated ∧
      (s.store.buffer 1).useCount = 0 ∧ s.store.waitQueue = [] ∧ (after .bufFree s).store.freeCount = 512 ∧
      ((after .bufFree s).store.buffer 1).state = .free := by decide +kernel

/-- A HELD job of channel 0 with an empty AUTO buffer, handle 2, waits; handle 1 holds block 3. -/
def waits : State :=
  let j : Job := { aJob .held .whole with
    operands := [{ role := .out, handle := 2, offset := 0, length := 0 }], autoHandle := 2, due := [0x55]
    engines := some (0, none) }
  let s := engaged 0 .held (.working 0 .primary (.delta 0 none)) (queued [j] (streamed deltaP .atRest damaged))
  { s with store := { s.store.setBuffer 2 { freeBuffer with
      state := .pending, origin := .auto, maximum := 4096, ownerTag := 9, useCount := 1, outputLocked := true } with
        waitQueue := [0] } }

/-- Handles 0, 48 and 49; handle 1 FREE, ALLOCATED and PENDING. -/
theorem witness_buf_info :
    let f (h : Byte) := req 0x14 [h]
    let s (st : State) (h : Byte) := asking st (f h)
    (s waits 49).takes 0x14 (f 49) ∧
      after .bufInfo (s waits 49) = (s waits 49).answered (f 49) .ordinary .badHandle [] ∧
      after .bufInfo (s waits 0) = (s waits 0).answered (f 0) .ordinary .ok
        [0xFF, 0x01, 46, 16, 1, 0, 0xFF, 0xFF, 0xFF] ∧
      after .bufInfo (s waits 48) = (s waits 48).answered (f 48) .ordinary .ok [0, 0, 0, 0, 0, 0, 0, 0, 0, 0, 0] ∧
      after .bufInfo (s waits 1) = (s waits 1).answered (f 1) .ordinary .ok [1, 0, 8, 0, 1, 0, 0, 0, 0, 0, 0] ∧
      after .bufInfo (s waits 2) = (s waits 2).answered (f 2) .ordinary .ok [2, 1, 0, 0, 0, 1, 2, 0, 0x10, 9, 0] := by
  decide +kernel

theorem witness_store_set :
    let f (v : Byte) := req 0x15 [v]
    (asking base (f 129)).takes 0x15 (f 129) ∧ (asking base (f 128)).takes 0x15 (f 128) ∧
      after .storeSet (asking base (f 129)) = (asking base (f 129)).answered (f 129) .ordinary .badField [] ∧
      (after .storeSet (asking base (f 128))).store.reserve = 128 := by decide +kernel

/-- Word 7 of the held block 3, clean and correctable; a table copy and a resident copy. -/
theorem witness_error_events :
    let resident : Part := .resident 0 .primary { value := .delta 0 none, level := .clean }
    let s := engaged 0 .bound resident (streamed deltaP .inRecord damaged)
    3 ∈ s.store.heldBlocks ∧ (after (.storedWordErrorEvent 3 7) s).store.levelAt 31 = .correctable ∧
      (after (.storedWordErrorEvent 3 0) s).store.levelAt 24 = .uncorrectable ∧ (s.stream 0).state ≠ .free ∧
      ((after (.contextCopyErrorEvent (.table 0 .primary) .correctable) s).stream 0).primaryCopy.level =
        .correctable ∧
      ((after (.contextCopyErrorEvent (.table 0 .check) .uncorrectable) s).stream 0).checkCopy.level =
        .uncorrectable ∧
      (s.engine 0).part = resident ∧
      ((after (.contextCopyErrorEvent (.resident 0) .uncorrectable) s).engine 0).part =
        .resident 0 .primary { value := .delta 0 none, level := .uncorrectable } := by decide +kernel

/-! ### Witnesses: the stream requests -/

/-- Stream 0 open, with this key. -/
def keyed (k : Option Quad) : State :=
  let s := streamed deltaP .inRecord base
  s.setStream 0 { s.stream 0 with key := k }

/-- Stream number, home channel, then a DELTA profile of this width. -/
def openBytes (n home width : Byte) : List Byte := [n, home, 0, 0, 9, width, 0x34, 0x12, 9, 9, 9, 9, 9]

theorem witness_profile_range : ¬ profileAccepted (openBytes 15 3 3) ∧ profileAccepted (openBytes 15 3 2) := by decide

/-- Stream numbers 15, 16 and 0FFH, home 3 and 4, width 1, 2 and 3; unused fields are not looked at. At width 1 the high
byte of the base, 12H, is not used and stored as 0. -/
theorem witness_stream_open :
    let f (n home width : Byte) := req 0x20 (openBytes n home width)
    let s (st : State) (n home width : Byte) := asking st (f n home width)
    let opened := streamed deltaP .atRest base
    let taken : State := { base with streams := Vector.replicate 16 (openedStream 0 deltaP) }
    (s base 16 0 1).takes 0x20 (f 16 0 1) ∧
      after .streamOpen (s base 16 0 1) = (s base 16 0 1).answered (f 16 0 1) .ordinary .badField [] ∧
      after .streamOpen (s opened 0 0 1) = (s opened 0 0 1).answered (f 0 0 1) .ordinary .streamTaken [] ∧
      (∀ n, (taken.stream n).state ≠ .free) ∧
      after .streamOpen (s taken 0xFF 0 1) = (s taken 0xFF 0 1).answered (f 0xFF 0 1) .ordinary .tableFull [] ∧
      after .streamOpen (s base 15 4 1) = (s base 15 4 1).answered (f 15 4 1) .ordinary .badField [] ∧
      after .streamOpen (s base 15 3 3) = (s base 15 3 3).answered (f 15 3 3) .ordinary .badField [] ∧
      (∀ m, m < (1 : StreamIx) → (opened.stream m).state ≠ .free) ∧ (opened.stream 1).state = .free ∧
      after .streamOpen (s opened 0xFF 3 2) = ((s opened 0xFF 3 2).setStream 1
        (openedStream 3 { blankProfile with deltaWidth := 2, deltaBase := 0x1234 })).answered (f 0xFF 3 2) .ordinary .ok
          [1] ∧
      after .streamOpen (s opened 0xFF 3 1) = ((s opened 0xFF 3 1).setStream 1
        (openedStream 3 { blankProfile with deltaWidth := 1, deltaBase := 0x0034 })).answered (f 0xFF 3 1) .ordinary .ok
          [1] := by decide +kernel

/-- Stream 0 IN-RECORD with its part resident on DL0. -/
def residing : State :=
  (streamed deltaP .inRecord base).setEngine 0 { freshEngine with
    state := .bound, binding := .pinned 0, part := .resident 0 .primary { value := .delta 5 none, level := .clean } }

/-- A swap save of stream 0's part for a job in LOADING. -/
def swapping : State := residing.setEngine 0 { residing.engine 0 with state := .loading, saveInProgress := true }

theorem witness_stream_close_and_reset :
    let f (k : Byte) (key : Byte) := req k [0, key, 0, 0, 0]
    let busy := (keyed none).setStream 0 { (keyed none).stream 0 with inFlight := 1 }
    let s (st : State) (k key : Byte) := asking st (f k key)
    (s swapping 0x21 0).takes 0x21 (f 0x21 0) ∧ (s swapping 0x22 0).takes 0x22 (f 0x22 0) ∧
      swapping.inSwap 0 = true ∧
      after .streamClose (s swapping 0x21 0) = (s swapping 0x21 0).holding (f 0x21 0) .swapSave ∧
      (base.stream 0).state = .free ∧ base.inSwap 0 = false ∧
      after .streamReset (s base 0x22 0) = (s base 0x22 0).answered (f 0x22 0) .ordinary .noStream [] ∧
      after .streamClose (s (keyed (some 1)) 0x21 2) =
        (s (keyed (some 1)) 0x21 2).answered (f 0x21 2) .ordinary .keyMismatch [] ∧
      after .streamReset (s busy 0x22 2) = (s busy 0x22 2).answered (f 0x22 2) .ordinary .busy [] ∧
      residing.inSwap 0 = false ∧ (residing.stream 0).inFlight = 0 ∧
      (after .streamClose (s residing 0x21 0)).stream 0 = freeStream ∧
      (after .streamReset (s residing 0x22 0)).stream 0 = openedStream 0 deltaP ∧
      (after .streamReset (s residing 0x22 0)).engine 0 = { residing.engine 0 with part := .none } := by
  decide +kernel

theorem witness_stream_key :
    let f (n k : Byte) := req 0x25 [n, k, 0, 0, 0]
    let s (st : State) (n k : Byte) := asking st (f n k)
    (s base 0 1).takes 0x25 (f 0 1) ∧ (base.stream 0).state = .free ∧
      after .streamKey (s base 0 1) = (s base 0 1).answered (f 0 1) .ordinary .noStream [] ∧
      after .streamKey (s base 16 1) = (s base 16 1).answered (f 16 1) .ordinary .noStream [] ∧
      after .streamKey (s (keyed none) 0 0) = (s (keyed none) 0 0).answered (f 0 0) .ordinary .badField [] ∧
      after .streamKey (s (keyed none) 0 1) = (s (keyed (some 1)) 0 1).answered (f 0 1) .ordinary .ok [] ∧
      after .streamKey (s (keyed (some 1)) 0 1) = (s (keyed none) 0 1).answered (f 0 1) .ordinary .ok [] ∧
      after .streamKey (s (keyed (some 2)) 0 1) =
        (s (keyed (some 2)) 0 1).answered (f 0 1) .ordinary .keyMismatch [] := by decide +kernel

/-- Home channels 3 and 4; a stream without and with a resident part. -/
theorem witness_stream_move :
    let f (home : Byte) := req 0x24 [0, home, 1, 0, 0, 0]
    let s (st : State) (home : Byte) := asking st (f home)
    let busy := (keyed none).setStream 0 { (keyed none).stream 0 with inFlight := 1 }
    (s base 4).takes 0x24 (f 4) ∧ base.inSwap 0 = false ∧
      after .streamMove (s base 4) = (s base 4).answered (f 4) .ordinary .badField [] ∧
      after .streamMove (s base 3) = (s base 3).answered (f 3) .ordinary .noStream [] ∧
      after .streamMove (s (keyed (some 2)) 3) =
        (s (keyed (some 2)) 3).answered (f 3) .ordinary .keyMismatch [] ∧
      after .streamMove (s busy 3) = (s busy 3).answered (f 3) .ordinary .busy [] ∧
      (∀ e, ((keyed none).engine e).part = .none) ∧ (keyed none).requestSaving = false ∧
      ((after .streamMove (s (keyed none) 3)).stream 0).home = 3 ∧
      (residing.engine 0).state = .bound ∧ residing.inSwap 0 = false ∧
      (after .streamMove (s residing 3)).decoder = .busy (f 3) (.move 0 3) false ∧
      ((after .streamMove (s residing 3)).engine 0).saveInProgress = true := by decide +kernel

/-- A stream of each record state; a copy of each error level. -/
theorem witness_stream_query :
    let f (key : Byte) := req 0x23 [0, key, 0, 0, 0]
    let s (st : State) (key : Byte) := asking st (f key)
    let at_ (st : RecordState) := streamed deltaP st base
    let saving := queued [aJob .saving .whole] (at_ .atRest)
    let copy (l : ErrLevel) : State := (at_ .inRecord).setStream 0 { (at_ .inRecord).stream 0 with
      primaryCopy := { value := .delta 0x1234 none, level := l } }
    let results (st : State) (key : Byte) :=
      (after .streamQuery (s st key)).link.cache.map (fun r => (r.frame.payload.drop 2).take 37)
    let fixed (st tail flags : Byte) (part : List Byte) : List (List Byte) :=
      [[st, tail, 0, 0, 0, 0, 1, 0, 0, 0, 0, 0, 0, 0, flags, 0] ++ List.replicate 12 0 ++ part]
    (s base 0).takes 0x23 (f 0) ∧ base.inSwap 0 = false ∧
      after .streamQuery (s base 0) = (s base 0).answered (f 0) .ordinary .noStream [] ∧
      saving.streamHasJob 0 (fun st => st == .saving) = true ∧
      after .streamQuery (s saving 0) = (s saving 0).holding (f 0) .savingQuery ∧
      (keyed (some 2)).streamHasJob 0 (fun st => st == .saving) = false ∧
      results (keyed (some 2)) 1 = fixed 2 2 5 (List.replicate 9 0) ∧
      results (at_ .faulted) 0 = fixed 3 3 0 (List.replicate 9 0) ∧
      results (at_ .atRest) 0 = fixed 1 1 0 [1, 0, 0, 0, 0, 0, 0, 0, 0] ∧
      (copy .clean).residentOn 0 .primary = none ∧
      results (copy .clean) 0 = fixed 2 2 0 [1, 0x34, 0x12, 0, 0, 0, 0, 0, 0] ∧
      results (copy .correctable) 0 = fixed 2 2 0 [1, 0x34, 0x12, 0, 0, 0, 0, 0, 0] ∧
      ((after .streamQuery (s (copy .correctable) 0)).stream 0).primaryCopy.level = .clean ∧
      results (copy .uncorrectable) 0 = fixed 2 2 8 [2, 0, 0, 0, 0, 0, 0, 0, 0] := by decide +kernel

/-- The context fields that a STREAM QUERY of stream 0 answers with, their flags before them. -/
def queried (s : State) : List (List Byte) :=
  let part (bs : List Byte) := bs.take 3
  (after .streamQuery (asking s (req 0x23 [0, 0, 0, 0, 0]))).link.cache.map (fun r =>
    let bs := r.frame.payload.drop 16
    bs.take 1 ++ part (bs.drop 14) ++ part (bs.drop 23))

/-! ### Witnesses: the job and channel requests -/

/-- A JOB SUBMIT payload: channel, stream, phase, then operands of role, handle, offset and length. -/
def submitBytes (c n phase : Byte) (ops : List (Byte × Byte × Nat × Nat)) : List Byte :=
  [c, n, phase, 0, 0, 0, 0, 0, 0, 0, 0, 0, BitVec.ofNat 8 ops.length] ++
    ops.flatMap (fun op => [op.1, op.2.1] ++ numBytes op.2.2.1 ++ numBytes op.2.2.2)

/-- The refusals of R50 in their order, each with a state and a request at its edge. -/
theorem witness_job_submit_refusals :
    let ask (c n phase : Byte) (ops : List (Byte × Byte × Nat × Nat)) := req 0x30 (submitBytes c n phase ops)
    let refuses (st : State) (f : Frame) (status : Status) : Bool :=
      gives .jobSubmit (asking st f) ((asking st f).answered f .ordinary status [])
    let s := streamed deltaP .atRest (stocked 8 [3] base)
    let out : Byte × Byte × Nat × Nat := (3, 0xFF, 0, 0)
    let f := ask 0 0 0 [out]
    let full := queued (List.replicate 8 (aJob .done .whole)) s
    let used : State := { s with store := s.store.setBuffer 1 { s.store.buffer 1 with useCount := 1 } }
    (asking s f).takes 0x30 f ∧ refuses s (ask 4 0 0 [out]) .badField = true ∧
      refuses s (ask 0 0 4 [out]) .badField = true ∧ refuses s (ask 0 15 0 [out]) .noStream = true ∧
      refuses (keyed (some 1)) (ask 0 0 3 [out]) .keyMismatch = true ∧
      refuses s (ask 1 0 0 [out]) .wrongChannel = true ∧
      refuses (streamed deltaP .faulted base) f .streamFaulted = true ∧
      refuses s (ask 0 0 2 [out]) .phase = true ∧ operandsOf (submitBytes 0 0 0 [(5, 1, 0, 0)]) = none ∧
      refuses s (ask 0 0 0 [(5, 1, 0, 0)]) .badOperands = true ∧ refuses s (ask 0 0 0 []) .badOperands = true ∧
      refuses s (ask 0 0 0 [out, (2, 2, 0, 8)]) .badHandle = true ∧
      refuses s (ask 0 0 0 [out, (2, 1, 1, 8)]) .badRange = true ∧
      refuses used (ask 0 0 0 [(3, 1, 0, 8)]) .locked = true ∧
      refuses s (ask 0 0 0 [(2, 1, 0, 8), (3, 1, 0, 8)]) .overlap = true ∧
      refuses full (ask 0 0 0 [out, (2, 1, 0, 8)]) .queueFull = true ∧
      refuses (streamed deltaP .atRest noHandle) f .noHandle = true := by decide +kernel

/-! ### A channel at work -/

/-- A secondary CHECK (CRC16) added to a profile, tapping this flow. -/
def withCheck (tap : Tap) (p : Profile) : Profile := { p with secondary := .check, tap := tap, crcInit := 0xFFFF }

/-- An operand. -/
def operand (r : Role) (h o n : Nat) : Operand := { role := r, handle := h, offset := o, length := n }

/-- An OUT that took AUTO buffer 2, and one to bytes 0 to 7 of handle 3. -/
def autoOut : Operand := operand .out 2 0 0
def plainOut : Operand := operand .out 3 0 8

/-- The head job of channel 0 with these operands and engines; an OUT to handle 2 is AUTO. -/
def working (st : JobState) (phase : Phase) (ops : List Operand) (engines : Option (EngineIx × Option EngineIx)) : Job :=
  { aJob st phase with operands := ops, engines := engines, autoHandle := if ops.contains autoOut then 2 else 0 }

/-- A job QUEUED behind it, without operands. -/
def behind (tag : Nat) (phase : Phase) (mark : Bool) : Job :=
  { aJob .queued phase with tag := tag, abortMark := mark }

/-- Use count and locks of a handle formed from the live jobs. -/
def counted (s : State) (h : Nat) : State :=
  let b := s.store.buffer h
  { s with store := s.store.setBuffer h { b with
      useCount := (s.liveJobs.filter (·.mentions h)).length
      inputLocked := s.liveJobs.any (·.names h true), outputLocked := s.liveJobs.any (·.names h false) } }

/-- Channel 0 with these jobs, the outbox full. Stream 0 has this profile and record state; handle 1 holds block 3 with the
bytes 11H 22H, handle 3 block 5, and the PENDING handle 2, where a job owns it, these blocks. -/
def scene (p : Profile) (record : RecordState) (js : List Job) (auto : List Nat := []) : State :=
  let s := queued js (streamed p record (filled base))
  let s := s.setStream 0 { s.stream 0 with inFlight := s.liveJobs.length }
  let st := s.store.setBuffer 1 { freeBuffer with state := .allocated, size := 8, blocks := [3] }
  let st := st.setBuffer 3 { freeBuffer with state := .allocated, size := 8, blocks := [5] }
  let st := if js.any (·.isAuto) then st.setBuffer 2 { freeBuffer with
    state := .pending, origin := .auto, maximum := 4096, ownerTag := 9, blocks := auto } else st
  let s := { s with store := { st with
    mem := [(192, 0x11), (193, 0x22)], freeCount := 510 - (if js.any (·.isAuto) then auto.length else 0) } }
  counted (counted (counted s 1) 2) 3

/-- The oldest n reports acknowledged: n slots of the outbox are free. -/
def slots (n : Nat) (s : State) : State :=
  { s with reports := { s.reports with outbox := s.reports.outbox.drop n } }

/-- An engine that works for the head job, with this binding and part. -/
def placed (e : EngineIx) (st : EngineState) (b : Binding) (p : Part) (s : State) : State :=
  s.setEngine e { freshEngine with state := st, binding := b, part := p, job := some 9 }

/-- The working copy of a part of stream 0. -/
def copyOf (w : Which) (v : PartValue) : Part := .working 0 w v

/-- The head job of channel 0 as seen after a command. -/
def outcome (c : Instr) (s : State) : Option (JobState × Reason) := ((after c s).head 0).map (fun j => (j.state, j.reason))

/-- The queue of channel 0 by tag, state and reason after a command. -/
def outcomes (c : Instr) (s : State) : List (Nat × JobState × Reason) :=
  ((after c s).channel 0).queue.map (fun j => (j.tag, j.state, j.reason))

/-- A word of handle 1 at this level. -/
def word (l : ErrLevel) (s : State) : State := { s with store := s.store.setLevel 24 l }

/-- A JOB ABORT of job 9 that waits for the end of LOADING. -/
def aborting (s : State) : State := { s with decoder := .busy (req 0x31 [9, 0, 0, 0, 0, 0]) (.abort 0) false }

/-! ### Witnesses: acceptance and grants -/

/-- A head job is working on stream 1; a job with DATA in handle 1 and an AUTO OUT is accepted behind it. -/
theorem witness_job_submit_accepted :
    let head : Job := { aJob .running .whole with tag := 8, stream := 1 }
    let s := queued [head] (streamed deltaP .atRest (stocked 8 [3] base))
    let f := req 0x30 (submitBytes 0 0 1 [(2, 1, 0, 8), (3, 0xFF, 0, 0)])
    let t := after .jobSubmit (asking s f)
    (asking s f).submits f 0 0 .first [operand .data 1 0 8, operand .out 0xFF 0 0] 2 ∧
      s.unsettled = false ∧ (s.channel 0).queue.length = 1 ∧
      t.link.cache.map (·.frame.payload) = [[0x30, 0, 1, 0, 2]] ∧
      (t.channel 0).queue.map (fun j => (j.tag, j.state)) = [(8, .running), (1, .queued)] ∧
      t.store.buffer 1 = { s.store.buffer 1 with useCount := 1, inputLocked := true } ∧
      t.store.buffer 2 = { freeBuffer with
        state := .pending, origin := .auto, maximum := 4096, ownerTag := 1, useCount := 1, outputLocked := true } ∧
      t.stream 0 = { s.stream 0 with inFlight := 1, tail := .inRecord } ∧ t.nextTag = 2 := by decide +kernel

/-- DELTA with a secondary CHECK: DL0 is pinned to channel 0 and keeps another stream's part, CK0 is OFFLINE or both CHECK
engines are, or both are busy with a scrub. -/
theorem witness_job_submit_granted :
    let s := scene (withCheck .input deltaP) .atRest []
    let s := s.setStream 1 (openedStream 0 deltaP)
    let s := s.setEngine 0 { freshEngine with
      state := .bound, binding := .pinned 0, part := .resident 1 .primary { value := .delta 5 none, level := .clean } }
    let one := s.setEngine 4 offlineEngine
    let none_ := one.setEngine 5 offlineEngine
    let busy := (s.setEngine 4 { freshEngine with state := .scrub }).setEngine 5 { freshEngine with state := .scrub }
    let f := req 0x30 (submitBytes 0 0 0 [(3, 0xFF, 0, 0)])
    let t := after .jobSubmit (asking one f)
    (asking one f).submits f 0 0 .whole [operand .out 0xFF 0 0] 2 ∧ (asking one f).coherent ∧ (asking one f).atRest ∧
      (one.channel 0).queue = [] ∧ one.supplies 0 .delta 0 ∧ one.supplies 0 .check 5 ∧
      (t.head 0).map (fun j => (j.state, j.engines)) = some (.loading, some (0, some 5)) ∧
      (t.engine 0).saveInProgress = true ∧ t.engine 5 = { freshEngine with
        state := .loading, binding := .dynamic 0, job := some 1 } ∧ t.grantPtr = 1 ∧ (t.watch 0).timer = some 0 ∧
      none_.outOfService .check ∧ (asking none_ f).coherent ∧ none_.reports.outbox.length = 16 ∧
      outcome .jobSubmit (asking none_ f) = some (.failed, .noEngine) ∧
      ((after .jobSubmit (asking none_ f)).store.buffer 2).state = .free ∧
      (slots 1 (asking none_ f)).atRest ∧ ((after .jobSubmit (slots 1 (asking none_ f))).channel 0).queue = [] ∧
      (after .jobSubmit (slots 1 (asking none_ f))).reports.outbox.length = 16 ∧
      ¬ busy.outOfService .check ∧ (∀ k, ¬ busy.supplies 0 .check k) ∧ (asking busy f).coherent ∧
      outcome .jobSubmit (asking busy f) = some (.waiting, .none) := by decide +kernel

/-- A DELTA stream without a secondary: DL1 where DL0 is taken. -/
theorem witness_job_submit_granted_one_engine :
    let s := (scene deltaP .atRest []).setEngine 0 { freshEngine with state := .bound, binding := .pinned 1 }
    let f := req 0x30 (submitBytes 0 0 0 [(3, 0xFF, 0, 0)])
    s.supplies 0 .delta 1 ∧ (asking s f).submits f 0 0 .whole [operand .out 0xFF 0 0] 2 ∧ (asking s f).coherent ∧
      (asking s f).atRest ∧
      ((after .jobSubmit (asking s f)).head 0).map (·.engines) = some (some (1, none)) := by decide +kernel

/-- A MIDDLE starts on the pinned engine that keeps its part, clean, correctable or lost: the table copy becomes the
checkpoint (R8, R11, log 18). -/
theorem witness_job_submit_granted_its_resident_part :
    let s (l : ErrLevel) : State := (scene deltaP .inRecord []).setEngine 0 { freshEngine with
      state := .bound, binding := .pinned 0, part := .resident 0 .primary { value := .delta 5 none, level := l } }
    let f := req 0x30 (submitBytes 0 0 2 [(3, 0xFF, 0, 0)])
    let copy (l : ErrLevel) := ((after .jobSubmit (asking (s l) f)).stream 0).primaryCopy
    (asking (s .clean) f).submits f 0 0 .middle [operand .out 0xFF 0 0] 2 ∧ (s .clean).coherent ∧
      (asking (s .clean) f).atRest ∧ (s .clean).supplies 0 .delta 0 ∧
      outcome .jobSubmit (asking (s .clean) f) = some (.loading, .none) ∧
      copy .clean = { value := .delta 5 none, level := .clean } ∧ copy .correctable = { value := .delta 5 none, level := .correctable } ∧
      copy .uncorrectable = { value := .delta 5 none, level := .uncorrectable } ∧
      ((after .jobSubmit (asking (streamed deltaP .atRest (s .uncorrectable)) (req 0x30 (submitBytes 0 0 0 [(3, 0xFF, 0, 0)])))).stream
        0).primaryCopy = { value := .delta 0 none, level := .clean } ∧
      ((after .jobSubmit (asking (s .correctable) f)).engine 0).part = ((s .correctable).engine 0).part ∧
      ((after .jobSubmit (asking (s .correctable) f)).engine 0).saveInProgress = false := by decide +kernel

/-- A fault of the primary engine ends LOADING before the correctable check part on CK0 is read: nothing is corrected and
nothing recorded, and the error stands in the table copy until a read finds it (R7). LOADING_END reads it. -/
theorem test_unread_checkpoint_keeps_its_error :
    let s := ((scene (withCheck .input deltaP) .inRecord []).setEngine 0 (pinnedEngine 0)).setEngine 4
      { pinnedEngine 0 with part := .resident 0 .check { value := .check 5 1, level := .correctable } }
    let t := after .jobSubmit (asking s (req 0x30 (submitBytes 0 0 2 [(3, 0xFF, 0, 0)])))
    let fault := after (.engineSelfCheckFault 0) t
    let load := after (.loadingEnd 0) t
    outcome (.engineSelfCheckFault 0) t = some (.failed, .engineFault) ∧ fault.banks.get 4 = clearedBank ∧
      (fault.stream 0).checkCopy = { value := .check 5 1, level := .correctable } ∧
      outcome (.loadingEnd 0) t = some (.running, .none) ∧ (load.bank 4).corrected = 1 ∧
      (load.stream 0).checkCopy = { value := .check 5 1, level := .clean } := by decide +kernel

theorem witness_job_abort :
    let f := req 0x31 [9, 0, 2, 0, 0, 0]
    let s (st : State) := asking st f
    let with_ (js : List Job) := s (queued js (streamed deltaP .atRest base))
    let keyOne := queued [aJob .queued .whole] (keyed (some 1))
    (s base).takes 0x31 f ∧ (∀ j ∈ base.jobs, j.tag ≠ 9) ∧
      after .jobAbort (s base) = (s base).answered f .ordinary .noJob [] ∧
      after .jobAbort (s keyOne) = (s keyOne).answered f .ordinary .keyMismatch [] ∧
      (with_ [aJob .saving .whole]).findJob 9 = some (aJob .saving .whole) ∧
      after .jobAbort (with_ [aJob .saving .whole]) =
        (with_ [aJob .saving .whole]).answered f .ordinary .tooLate [] ∧
      ((after .jobAbort (with_ [{ aJob .running .whole with tag := 8 }, aJob .queued .whole])).channel 0).queue =
        [{ aJob .running .whole with tag := 8 }, { aJob .queued .whole with abortMark := true }] ∧
      (after .jobAbort (with_ [aJob .loading .whole])).decoder = .busy f (.abort 0) false := by decide +kernel

/-- The ABORTED end of a WAITING head, and of a QUEUED job in the middle with no earlier live job of its stream, each with
the cascade of the job behind it. -/
theorem witness_job_abort_ends :
    let f := req 0x31 [9, 0, 2, 0, 0, 0]
    let waiting := asking (scene deltaP .atRest [aJob .waiting .whole, behind 10 .whole false]) f
    let other : Job := { aJob .done .whole with tag := 8, stream := 1 }
    let middle := scene deltaP .atRest [other, aJob .queued .whole, behind 10 .whole false]
    let middle := asking (middle.setChannel 0 { middle.channel 0 with claim := true }) f
    waiting.takes 0x31 f ∧ waiting.findJob 9 = some (aJob .waiting .whole) ∧
      waiting.cuttable 0 (aJob .waiting .whole) ∧
      outcomes .jobAbort waiting = [(9, .aborted, .none), (10, .cancelled, .predecessor)] ∧
      middle.findJob 9 = some (aJob .queued .whole) ∧ middle.cuttable 0 (aJob .queued .whole) ∧
      outcomes .jobAbort middle = [(8, .done, .none), (9, .aborted, .none), (10, .cancelled, .predecessor)] ∧
      ((after .jobAbort middle).stream 0).inFlight = 0 := by decide +kernel

/-- A WAITING head is aborted with three slots free: its JOB END enters, that of the job it cancels too, and the QUEUED job
of stream 1 behind them becomes the head, with its engine or, where none of its kind is left, FAILED NO-ENGINE. -/
theorem witness_job_abort_with_a_slot_free :
    let f := req 0x31 [9, 0, 2, 0, 0, 0]
    let other : Job := { aJob .queued .whole with tag := 11, stream := 1 }
    let s := scene deltaP .atRest [aJob .waiting .whole, behind 10 .whole false, other]
    let s := (s.setStream 0 { s.stream 0 with inFlight := 2 }).setStream 1 { openedStream 0 runP with inFlight := 1 }
    let s := (s.setEngine 0 { freshEngine with state := .scrub }).setEngine 1 { freshEngine with state := .scrub }
    let s := asking (slots 3 (s.setChannel 0 { s.channel 0 with silent := 5 })) f
    let last := (s.setEngine 2 offlineEngine)
    let t := after .jobAbort s
    s.takes 0x31 f ∧ s.findJob 9 = some (aJob .waiting .whole) ∧ s.endable 0 (aJob .waiting .whole) ∧
      outcomes .jobAbort s = [(11, .loading, .none)] ∧ (t.channel 0).silent = 0 ∧ t.reports.jobEndPtr = 1 ∧
      t.reports.outbox.length = 15 ∧
      (t.reports.outbox.drop 13).map (fun r => (r.number, match r.body with
        | .jobEnd e => some (e.tag, e.outcome, e.silentCount) | _ => none)) =
          [(16, some (9, .aborted, 5)), (17, some (10, .cancelled, 0))] ∧
      last.endable 0 (aJob .waiting .whole) ∧ outcomes .jobAbort last = [] ∧
      (after .jobAbort last).reports.outbox.length = 16 := by decide +kernel

theorem witness_channel_set_and_query :
    let f (c m : Byte) := req 0x32 [c, m]
    let g (c : Byte) := req 0x33 [c]
    let j : Job := { working .running .whole [plainOut] (some (0, some 5)) with warned := true, dataConsumed := 258 }
    let s (fr : Frame) := asking (scene deltaP .atRest [j]) fr
    (s (f 4 0)).takes 0x32 (f 4 0) ∧ (s (g 4)).takes 0x33 (g 4) ∧
      after .channelSet (s (f 4 0)) = (s (f 4 0)).answered (f 4 0) .ordinary .badField [] ∧
      after .channelSet (s (f 3 2)) = (s (f 3 2)).answered (f 3 2) .ordinary .badField [] ∧
      ((after .channelSet (s (f 3 1))).channel 3).mode = .marked ∧
      after .channelQuery (s (g 4)) = (s (g 4)).answered (g 4) .ordinary .badField [] ∧
      after .channelQuery (s (g 3)) = (s (g 3)).answered (g 3) .ordinary .ok
        [0, 0, 0xFF, 0xFF, 0xFF, 0xFF, 0, 0xFF, 0xFF, 0, 0, 0, 0, 0, 0, 0] ∧
      after .channelQuery (s (g 0)) = (s (g 0)).answered (g 0) .ordinary .ok
        [0, 0, 0xFF, 0xFF, 0xFF, 0xFF, 12, 0, 5, 0, 0, 2, 1, 0, 0, 1, 9, 0, 0, 0, 3, 0, 0] := by decide +kernel

/-! ### Witnesses: the events of a job -/

/-- LOADING on DL0 alone, dynamic. -/
def loading (phase : Phase) (cause : Option HeldCause) (level : ErrLevel) : State :=
  let j := { working .loading phase [plainOut] (some (0, none)) with heldCause := cause }
  let s := placed 0 .loading (.dynamic 0) .none (scene deltaP phase.needs [j, behind 10 .middle false])
  s.setStream 0 { s.stream 0 with primaryCopy := { value := .delta 0x77 none, level := level } }

/-- The head job of `loading`. -/
def loadingJob (phase : Phase) (cause : Option HeldCause) : Job :=
  { working .loading phase [plainOut] (some (0, none)) with heldCause := cause }

/-- LOADING of a MIDDLE on DL0, dynamic, and CK0, pinned with the check part resident; the levels of the table copy of the
primary part and of the resident copy. -/
def loadingTwo (table resident : ErrLevel) : State :=
  let j := working .loading .middle [plainOut] (some (0, some 4))
  let s := scene (withCheck .input deltaP) .inRecord [j, behind 10 .middle false]
  let s := placed 0 .loading (.dynamic 0) .none s
  let s := placed 4 .loading (.pinned 0) (.resident 0 .check { value := .check 3 1, level := resident }) s
  s.setStream 0 { s.stream 0 with primaryCopy := { value := .delta 0x77 none, level := table } }

/-- The head job of `loadingTwo`. -/
def loadingTwoJob : Job := working .loading .middle [plainOut] (some (0, some 4))

/-- FIRST reads nothing, so its uncorrectable copy is not seen; a MIDDLE on two engines reads the table copy, correctable,
and the resident copy. -/
theorem witness_loading_end :
    let first := loading .first none .uncorrectable
    let two := loadingTwo .correctable .clean
    let t := after (.loadingEnd 0) two
    first.loads 0 (loadingJob .first none) ∧ first.readable (loadingJob .first none) [(0, .primary)] ∧
      first.tagsUnique ∧ first.unsettled = false ∧ outcome (.loadingEnd 0) first = some (.running, .none) ∧
      ((after (.loadingEnd 0) first).engine 0).part = copyOf .primary (.delta 0 none) ∧
      two.loads 0 loadingTwoJob ∧ two.readable loadingTwoJob loadingTwoJob.workers ∧ two.tagsUnique ∧
      two.unsettled = false ∧ t.head 0 = some { loadingTwoJob with state := .running } ∧
      (t.engine 0).part = copyOf .primary (.delta 0x77 none) ∧ (t.engine 4).part = copyOf .check (.check 3 1) ∧
      (t.stream 0).checkCopy = { value := .check 3 1, level := .clean } ∧
      (t.bank 0).record = some { severity := .corrected, kind := .context, site := some (.stream 0), tag := some 9 } := by
  decide +kernel

/-- STREAM QUERY of two parts, the primary's table copy correctable and the check's lost; of a part resident on a pinned
engine, correctable and lost, written back there; during LOADING, from the table copies; and held behind a swap save. -/
theorem witness_stream_query_of_parts :
    let f := req 0x23 [0, 0, 0, 0, 0]
    let mixed := streamed (withCheck .input deltaP) .inRecord base
    let mixed := mixed.setStream 0 { mixed.stream 0 with
      primaryCopy := { value := .delta 0x1234 none, level := .correctable }
      checkCopy := { value := .check 3 1, level := .uncorrectable } }
    let kept (l : ErrLevel) : State := residing.setEngine 0 { residing.engine 0 with
      part := .resident 0 .primary { value := .delta 5 none, level := l } }
    let load := loadingTwo .correctable .correctable
    let done (s : State) := after .streamQuery (asking s f)
    mixed.keptOnce 0 ∧ queried mixed = [[8, 1, 0x34, 0x12, 2, 0, 0]] ∧
      ((done mixed).stream 0).primaryCopy.level = .clean ∧ (done mixed).banks = mixed.banks ∧
      (kept .clean).keptOnce 0 ∧ (kept .clean).residentCopy 0 .primary = some { value := .delta 5 none, level := .clean } ∧
      queried (kept .correctable) = [[0, 1, 5, 0, 0, 0, 0]] ∧ (done (kept .correctable)).engine 0 = (kept .clean).engine 0 ∧
      queried (kept .uncorrectable) = [[8, 2, 0, 0, 0, 0, 0]] ∧
      load.keptOnce 0 ∧ queried load = [[2, 1, 0x77, 0, 1, 0xFF, 0xFF]] ∧
      ((done load).stream 0).primaryCopy.level = .clean ∧ (done load).engine 4 = load.engine 4 ∧
      swapping.inSwap 0 = true ∧ done swapping = (asking swapping f).holding f .swapSave := by decide +kernel

/-- A held ABORT with its request waiting, and a held LIMIT with an ABORT that came after it. -/
theorem witness_loading_end_with_a_held_cause :
    let abort := aborting (loading .middle (some .abort) .correctable)
    let limit := aborting (loading .middle (some .limit) .clean)
    abort.loads 0 (loadingJob .middle (some .abort)) ∧ abort.cuttable 0 (loadingJob .middle (some .abort)) ∧
      abort.readable (loadingJob .middle (some .abort)) [(0, .primary)] ∧
      outcomes (.loadingEnd 0) abort = [(9, .aborted, .none), (10, .cancelled, .predecessor)] ∧
      (after (.loadingEnd 0) abort).link.cache.map (·.frame.payload) = [[0x31, 0]] ∧
      limit.loads 0 (loadingJob .middle (some .limit)) ∧ limit.cuttable 0 (loadingJob .middle (some .limit)) ∧
      outcomes (.loadingEnd 0) limit = [(9, .failed, .stalled), (10, .cancelled, .predecessor)] ∧
      (after (.loadingEnd 0) limit).link.cache.map (·.frame.payload) = [[0x31, statusCode .tooLate]] := by
  decide +kernel

/-- The only part is lost; the check part is lost after a correctable primary part was loaded. -/
theorem witness_loading_end_finds_the_loss :
    let one := aborting (loading .middle (some .abort) .uncorrectable)
    let two := loadingTwo .correctable .uncorrectable
    one.loads 0 (loadingJob .middle (some .abort)) ∧ one.cuttable 0 (loadingJob .middle (some .abort)) ∧
      (one.sourceCopy (loadingJob .middle (some .abort)) (0, .primary)).level = .uncorrectable ∧
      (one.stream 0).state = .inRecord ∧ (∀ g, (one.engine g).part = .none) ∧
      outcomes (.loadingEnd 0) one = [(9, .failed, .contextError), (10, .cancelled, .streamFaulted)] ∧
      (after (.loadingEnd 0) one).link.cache.map (·.frame.payload) = [[0x31, statusCode .tooLate]] ∧
      two.loads 0 loadingTwoJob ∧ two.cuttable 0 loadingTwoJob ∧
      loadingTwoJob.workers = [(0, .primary)] ++ (4, .check) :: [] ∧ two.readable loadingTwoJob [(0, .primary)] ∧
      (two.sourceCopy loadingTwoJob (4, .check)).level = .uncorrectable ∧
      (∀ g, (two.engine g).holds = some (0, .primary) ∨ (two.engine g).holds = some (0, .check) → g = 0 ∨ g = 4) ∧
      outcomes (.loadingEnd 0) two = [(9, .failed, .contextError), (10, .cancelled, .streamFaulted)] ∧
      ((after (.loadingEnd 0) two).stream 0).state = .faulted ∧
      ((after (.loadingEnd 0) two).bank 0).corrected = 1 ∧ ((after (.loadingEnd 0) two).bank 4).uncorrected = 1 := by
  decide +kernel

/-- A WHOLE job RUNNING on DL0 and CK0 with these operands and record of itself. -/
def runningTwo (tap : Tap) (p : Profile) (v : PartValue) (f : Job → Job) (ops : List Operand) (auto : List Nat := []) :
    State :=
  let j := f (working .running .whole ops (some (0, some 4)))
  placed 4 .running (.dynamic 0) (copyOf .check (.check 0xFFFF 0))
    (placed 0 .running (.pinned 0) (copyOf .primary v) (scene (withCheck tap p) .atRest [j] auto))

/-- The head job of channel 0. -/
def theJob (s : State) : Job := (s.head 0).getD (aJob .done .whole)

/-- The last byte of DATA in handle 1, fed to the primary and to the tapped check part; its word clean, correctable, read
before, and uncorrectable. -/
theorem witness_byte_step_reads :
    let ops := [operand .data 1 0 2, plainOut]
    let s := runningTwo .input deltaP (.delta 1 none) (fun j => { j with dataConsumed := 1 }) ops
    let read := runningTwo .input deltaP (.delta 1 none)
      (fun j => { j with dataConsumed := 1, wordsRead := [(0, 1, 0)] }) ops
    let fed := fun (u : State) =>
      ((after (.byteStep 0) u).head 0).map (fun j => (j.dataConsumed, j.due, j.inHand, j.wordsRead))
    let carry := runningTwo .output { deltaP with deltaWidth := 2 } (.delta 1 none) id ops
    s.tagsUnique ∧ (theJob s).state = .running ∧ (theJob s).due = [] ∧ ((theJob s).workers.map (·.1)).Nodup ∧
      (theJob s).nextLead = none ∧ (theJob s).nextData = some (operand .data 1 0 2, 1) ∧
      (theJob s).engines = some (0, some 4) ∧ s.store.levelOf 1 1 = .clean ∧
      fed s = some (2, [0x21], some 0x22, [(0, 1, 0)]) ∧
      ((after (.byteStep 0) s).engine 0).part = copyOf .primary (.delta 1 none) ∧
      (theJob carry).nextData = some (operand .data 1 0 2, 0) ∧ fed carry = some (1, [], none, [(0, 1, 0)]) ∧
      ((after (.byteStep 0) carry).engine 0).part = copyOf .primary (.delta 1 (some 0x11)) ∧
      ((after (.byteStep 0) s).engine 4).part = copyOf .check (.check (crcByte .crc16 0xFFFF 0x22) 1) ∧
      fed (word .correctable s) = fed s ∧ (after (.byteStep 0) (word .correctable s)).store.levels = [] ∧
      ((after (.byteStep 0) (word .correctable s)).bank 0).corrected = 1 ∧
      fed (word .uncorrectable read) = fed s ∧ ((after (.byteStep 0) (word .uncorrectable read)).bank 0).record = none ∧
      (word .uncorrectable s).cuttable 0 (theJob s) ∧
      outcome (.byteStep 0) (word .uncorrectable s) = some (.failed, .dataError) ∧
      ((after (.byteStep 0) (word .uncorrectable s)).bank 0).record =
        some { severity := .uncorrected, kind := .blockData, site := some (.block 1 0), tag := some 9 } := by
  decide +kernel

/-- The last PREFIX byte, to a primary CHECK on CK1 and to a secondary CHECK on CK0; its word clean and uncorrectable. -/
theorem witness_byte_step_feeds_the_lead :
    let lead := operand .lead 1 0 1
    let primary := placed 5 .running (.dynamic 0) (copyOf .primary (.check 0xFFFF 0))
      (scene checkP .atRest [working .running .whole [lead] (some (5, none))])
    let secondary := runningTwo .output deltaP (.delta 0 none) id [lead, plainOut]
    (theJob primary).nextLead = some lead ∧ (theJob primary).engines = some (5, none) ∧ primary.tagsUnique ∧
      ((after (.byteStep 0) primary).head 0).map (·.leadFed) = some 1 ∧
      ((after (.byteStep 0) primary).engine 5).part = copyOf .primary (.check (crcByte .crc16 0xFFFF 0x11) 1) ∧
      (theJob secondary).nextLead = some lead ∧ (theJob secondary).engines = some (0, some 4) ∧
      secondary.tagsUnique ∧
      ((after (.byteStep 0) secondary).engine 4).part = copyOf .check (.check (crcByte .crc16 0xFFFF 0x11) 1) ∧
      ((after (.byteStep 0) secondary).engine 0).part = copyOf .primary (.delta 0 none) ∧
      (word .uncorrectable secondary).cuttable 0 (theJob secondary) ∧
      ((after (.byteStep 0) (word .uncorrectable secondary)).bank 4).uncorrected = 1 ∧
      outcome (.byteStep 0) (word .uncorrectable secondary) = some (.failed, .dataError) := by decide +kernel

/-- Byte 7 of an explicit OUT of 8: a due byte, in a clean and in an uncorrectable word, and the carry byte of a DELTA's
finalize step; at 8 bytes the OUT is full. -/
theorem witness_byte_step_writes :
    let s (written : Nat) := runningTwo .output deltaP (.delta 0 none)
      (fun j => { j with due := [0x5A], inHand := some 0x5A, outWritten := written }) [plainOut]
    let last := runningTwo .output { deltaP with deltaWidth := 2 } (.delta 0 (some 0x5A))
      (fun j => { j with outWritten := 7 }) [plainOut]
    let bad := { (s 7) with store := (s 7).store.setLevel 40 .uncorrectable }
    let full := { (s 8) with store := (s 8).store.setLevel 40 .uncorrectable }
    let wrote := fun (u : State) =>
      ((after (.byteStep 0) u).head 0).map (fun j => (j.due, j.outWritten, j.finalized, j.oddTail))
    (s 7).tagsUnique ∧ (theJob (s 7)).due = [0x5A] ∧ (theJob (s 7)).outOperand = some plainOut ∧
      (theJob (s 7)).autoHandle = 0 ∧ ((s 7).store.buffer 3).address 7 = some 327 ∧ (s 7).store.canonical ∧
      bad.store.canonical ∧ wrote (s 7) = some ([], 8, false, false) ∧
      (after (.byteStep 0) (s 7)).store.byteAt 327 = 0x5A ∧ (after (.byteStep 0) bad).store.levels = [] ∧
      ((after (.byteStep 0) (s 7)).engine 4).part = copyOf .check (.check (crcByte .crc16 0xFFFF 0x5A) 1) ∧
      ((after (.byteStep 0) (s 7)).engine 0).part = copyOf .primary (.delta 0x5A none) ∧
      ((after (.byteStep 0) last).engine 0).part = copyOf .primary (.delta 0 none) ∧
      last.tagsUnique ∧ (theJob last).due = [] ∧ (theJob last).nextLead = none ∧ (theJob last).nextData = none ∧
      (theJob last).phase = .whole ∧ (theJob last).finalized = false ∧
      finalizeBytes (last.stream 0).profile (.delta 0 (some 0x5A)) = [0x5A] ∧
      wrote last = some ([], 8, true, true) ∧ (after (.byteStep 0) last).store.byteAt 327 = 0x5A ∧
      full.cuttable 0 (theJob full) ∧ outcome (.byteStep 0) full = some (.failed, .outFull) ∧
      (after (.byteStep 0) full).store.levels = full.store.levels := by decide +kernel

/-- The flush of the pending run (41H, 2) by the differing byte 42H, M = 3 (section 2.3): it stands until its last byte has been
written, and is (42H, 1) then (R33, R34); after a finalize flush it is absent (R35). -/
theorem test_flushed_run_stands_until_its_last_byte :
    let s (due : List Byte) (hand : Option Byte) := runningTwo .output runP (.run (some (0x41, 2)))
      (fun j => { j with due := due, inHand := hand, finalized := hand.isNone }) [plainOut]
    let left (u : State) := ((after (.byteStep 0) u).engine 0).part
    left (s [0x41, 0x41] (some 0x42)) = copyOf .primary (.run (some (0x41, 2))) ∧
      left (s [0x41] (some 0x42)) = copyOf .primary (.run (some (0x42, 1))) ∧
      ((after (.byteStep 0) (s [0x41] (some 0x42))).head 0).map (·.inHand) = some none ∧
      left (s [0x41, 0x41] none) = copyOf .primary (.run (some (0x41, 2))) ∧
      left (s [0x41] none) = copyOf .primary (.run none) := by decide +kernel

/-- Every block held: handle 4 holds those that the other buffers leave. -/
def exhausted (s : State) : State :=
  let left := (List.range 512).filter (fun b => !s.store.heldBlocks.contains b)
  { s with store := { s.store.setBuffer 4 { freeBuffer with state := .allocated, size := 1, blocks := left } with
      freeCount := 0 } }

/-- An AUTO OUT at its first byte with blocks free, and with none free; within its block; and at its maximum. -/
theorem witness_byte_step_grows :
    let s (written : Nat) (auto : List Nat) := runningTwo .output deltaP (.delta 0 none)
      (fun j => { j with due := [0x5A], inHand := some 0x5A, outWritten := written }) [autoOut] auto
    let none_ := exhausted (s 0 [])
    let full := runningTwo .output deltaP (.delta 0 none)
      (fun j => { j with due := [0x5A], inHand := some 0x5A, outWritten := 4096 }) [autoOut] [1]
    let buffer := fun (u : State) => ((after (.byteStep 0) u).store.buffer 2)
    (s 0 []).tagsUnique ∧ (theJob (s 0 [])).outOperand = some autoOut ∧ (theJob (s 0 [])).autoHandle = 2 ∧
      (theJob (s 0 [])).outRoom autoOut = 4096 ∧ (s 0 []).store.blocksCounted ∧ (s 0 []).store.canonical ∧
      ((s 0 []).store.buffer 2).state = .pending ∧ (buffer (s 0 [])).blocks = [0] ∧ (buffer (s 0 [])).size = 1 ∧
      (after (.byteStep 0) (s 0 [])).store.byteAt 0 = 0x5A ∧ (after (.byteStep 0) (s 0 [])).store.freeCount = 509 ∧
      (s 1 [1]).store.blocksCounted ∧ ((s 1 [1]).store.buffer 2).address 1 = some 65 ∧
      (s 1 [1]).store.levelAt 8 ≠ .uncorrectable ∧ (buffer (s 1 [1])).size = 2 ∧
      (after (.byteStep 0) (s 1 [1])).store.byteAt 65 = 0x5A ∧
      none_.store.blocksCounted ∧ none_.store.canonical ∧ outcome (.byteStep 0) none_ = some (.held, .none) ∧
      (after (.byteStep 0) none_).store.waitQueue = [0] ∧ ((after (.byteStep 0) none_).engine 0).state = .held ∧
      ((after (.byteStep 0) none_).engine 4).state = .running ∧
      full.cuttable 0 (theJob full) ∧ outcome (.byteStep 0) full = some (.failed, .outFull) ∧
      buffer full = freeBuffer ∧ (after (.byteStep 0) full).store.freeCount = 510 := by decide +kernel

/-- A FIRST on two engines, one dynamic; a LAST of a CRC16 CHECK with CHECK-OUT and expect (section 2.5.1). -/
theorem witness_transform_work_end :
    let first := runningTwo .input deltaP (.delta 3 none) (fun j => { j with phase := .first }) [plainOut]
    let j : Job := { working .running .last [operand .checkOut 1 0 2] (some (4, none)) with expect := some 0x1234B915 }
    let check := placed 4 .running (.dynamic 0) (copyOf .primary (.check 0xB915 1)) (scene checkP .inRecord [j])
    let t := after (.transformWorkEnd 0) check
    first.tagsUnique ∧ (theJob first).nextLead = none ∧ (theJob first).nextData = none ∧ (theJob first).due = [] ∧
      (theJob first).engines = some (0, some 4) ∧ (first.engine 0).part = copyOf .primary (.delta 3 none) ∧
      (first.engine 4).part = copyOf .check (.check 0xFFFF 0) ∧ (first.engine 4).binding = .dynamic 0 ∧
      outcome (.transformWorkEnd 0) first = some (.saving, .none) ∧
      ((after (.transformWorkEnd 0) first).engine 0).state = .saving ∧
      ((after (.transformWorkEnd 0) first).engine 0).part = copyOf .primary (.delta 3 none) ∧
      check.tagsUnique ∧ (theJob check).engines = some (4, none) ∧
      (check.engine 4).part = copyOf .primary (.check 0xB915 1) ∧
      finalizeBytes checkP (.check 0xB915 1) = [] ∧
      (t.head 0).map (fun j => (j.state, j.checkValue, j.verify)) = some (.saving, some 0xB915, .isMatch) ∧
      t.store.byteAt 192 = 0x15 ∧ t.store.byteAt 193 = 0xB9 ∧
      (t.engine 4).part = copyOf .primary (.check 0xFFFF 0) := by decide +kernel

/-- Every engine pinned: a LAST of DELTA with a secondary CHECK ends DONE at once, its MISMATCH reported, its parts resident;
a FIRST keeps its working copies, and the abort mark behind it takes effect. -/
theorem witness_transform_work_end_all_pinned :
    let pinned (phase : Phase) (js : List Job) (expect : Option Quad) : State :=
      let j : Job := { working .running phase [autoOut] (some (0, some 4)) with expect := expect }
      let s := scene (withCheck .output deltaP) phase.needs (j :: js) [1]
      let s := placed 0 .running (.pinned 0) (copyOf .primary (.delta 3 none)) s
      placed 4 .running (.pinned 0) (copyOf .check (.check 7 1)) s
    let last := pinned .last [] (some 0)
    let first := pinned .first [behind 10 .middle true, behind 11 .last false] none
    last.finishable 0 (theJob last) ∧ (theJob last).engines = some (0, some 4) ∧ (last.channel 0).mode = .each ∧
      outcome (.transformWorkEnd 0) last = some (.done, .none) ∧
      ((after (.transformWorkEnd 0) last).head 0).map (·.verify) = some .mismatch ∧
      (after (.transformWorkEnd 0) last).engine 4 = { freshEngine with
        state := .bound, binding := .pinned 0, part := .resident 0 .check { value := .check 0xFFFF 0, level := .clean } } ∧
      ((after (.transformWorkEnd 0) last).store.buffer 2).state = .allocated ∧
      first.finishable 0 (theJob first) ∧
      outcomes (.transformWorkEnd 0) first =
        [(9, .done, .none), (10, .aborted, .none), (11, .cancelled, .predecessor)] ∧
      ((after (.transformWorkEnd 0) first).engine 0).part =
        .resident 0 .primary { value := .delta 3 none, level := .clean } ∧
      ((after (.transformWorkEnd 0) first).stream 0).state = .inRecord := by decide +kernel

/-- SAVING on DL0, dynamic, and CK0, pinned with offline due: in EACH mode with an abort mark behind, and in MARKED mode as
the last job of its channel, with a STREAM QUERY held behind it and without. -/
theorem witness_saving_end :
    let s (mode : Mode) (js : List Job) : State :=
      let j := working .saving .first [autoOut] (some (0, some 4))
      let s := scene (withCheck .output deltaP) .atRest (j :: js) [1]
      let s := placed 4 .saving (.pinned 0) (copyOf .check (.check 7 1))
        (placed 0 .saving (.dynamic 0) (copyOf .primary (.delta 3 none)) s)
      let s := s.setEngine 4 { s.engine 4 with offlineDue := true }
      s.setChannel 0 { s.channel 0 with mode := mode, silent := 254 }
    let each := s .each [behind 10 .middle true, behind 11 .last false]
    let marked := s .marked []
    let t := after (.savingEnd 0) each
    let query := req 0x23 [0, 0, 0, 0, 0]
    let asked : State := { marked with decoder := .busy query .savingQuery false }
    asked.finishable 0 (theJob asked) ∧ query.holdable .streamQuery ∧
      gives (.savingEnd 0) asked (after .streamQuery
        (State.requeued { after (.savingEnd 0) marked with decoder := asked.decoder } query)) = true ∧
      (after (.savingEnd 0) asked).link.cache.map (fun r => r.frame.payload.take 4) = [[0x23, 0, 2, 2]] ∧
      each.finishable 0 (theJob each) ∧ each.decoder = .idle ∧
      outcomes (.savingEnd 0) each = [(9, .done, .none), (10, .aborted, .none), (11, .cancelled, .predecessor)] ∧
      (t.channel 0).claim = true ∧ t.engine 0 = { freshEngine with state := .scrub } ∧ t.engine 4 = offlineEngine ∧
      (t.stream 0).inFlight = 0 ∧ (t.stream 0).tail = .inRecord ∧
      (t.stream 0).primaryCopy = { value := .delta 3 none, level := .clean } ∧
      (t.stream 0).checkCopy = { value := .check 7 1, level := .clean } ∧ (t.store.buffer 2).state = .allocated ∧
      marked.finishable 0 (theJob marked) ∧
      (after (.savingEnd 0) marked).channel 0 = { marked.channel 0 with queue := [], silent := 255 } := by
  decide +kernel

/-- SAVING on DL0, dynamic, with these entries behind, n slots of the outbox free: in EACH mode, and in MARKED mode. -/
def savingBefore (mode : Mode) (n : Nat) (js : List Job) : State :=
  let s := scene deltaP .atRest (working .saving .whole [plainOut] (some (0, none)) :: js)
  let s := placed 0 .saving (.dynamic 0) (copyOf .primary (.delta 3 none)) s
  let s := s.setStream 1 { openedStream 0 deltaP with inFlight := (js.filter (fun j => decide (j.stream = 1))).length }
  let s := s.setStream 0 { s.stream 0 with inFlight := 1 + (js.filter (fun j => decide (j.stream = 0) && j.state.live)).length }
  slots n (s.setChannel 0 { s.channel 0 with mode := mode, silent := 7 })

/-- Behind a job in SAVING: a QUEUED job of stream 1, or a DONE one and then it. With no, one and two slots free in EACH mode,
and in MARKED mode, where both ends are silent; DL1 AVAILABLE, and busy with a scrub. -/
theorem witness_saving_end_and_the_next_entry :
    let next : Job := { aJob .queued .whole with tag := 11, stream := 1 }
    let ended : Job := { aJob .done .whole with tag := 10 }
    let s (mode : Mode) (n : Nat) (js : List Job) := savingBefore mode n js
    let t (mode : Mode) (n : Nat) (js : List Job) := after (.savingEnd 0) (s mode n js)
    let seen (u : State) := ((u.channel 0).queue.map (fun j => (j.tag, j.state)), (u.channel 0).claim, (u.channel 0).silent,
      u.reports.outbox.length)
    (s .each 1 [next]).finishable 0 (theJob (s .each 1 [next])) ∧
      seen (t .each 0 [next]) = ([(9, .done), (11, .queued)], true, 7, 16) ∧
      seen (t .each 1 [next]) = ([(11, .loading)], false, 0, 16) ∧ (t .each 1 [next]).reports.jobEndPtr = 1 ∧
      ((t .each 1 [next]).head 0).bind (·.engines) = some (1, none) ∧
      (s .each 1 [ended, next]).finishable 0 (theJob (s .each 1 [ended, next])) ∧
      seen (t .each 1 [ended, next]) = ([(10, .done), (11, .queued)], true, 0, 16) ∧
      seen (t .each 2 [ended, next]) = ([(11, .loading)], false, 0, 16) ∧
      (s .marked 0 [ended, next]).finishable 0 (theJob (s .marked 0 [ended, next])) ∧
      seen (t .marked 0 [ended, next]) = ([(11, .loading)], false, 9, 16) ∧
      seen (t .marked 0 [{ ended with verify := .mismatch }, next]) = ([(10, .done), (11, .queued)], true, 8, 16) ∧
      seen (after (.savingEnd 0) ((s .marked 2 [next]).setEngine 1 { freshEngine with state := .scrub })) =
        ([(11, .waiting)], false, 8, 14) := by decide +kernel

/-- A HELD job with an AUTO buffer of two blocks. -/
def holding : State :=
  let j : Job := { working .held .whole [autoOut] (some (0, some 4)) with
    due := [0x55], inHand := some 0x77, outWritten := 128 }
  let s := scene (withCheck .output deltaP) .atRest [j, behind 10 .whole false] [1, 2]
  let s := placed 4 .running (.dynamic 0) (copyOf .check (.check 7 1))
    (placed 0 .held (.pinned 0) (copyOf .primary (.delta 3 none)) s)
  let s := exhausted s
  { s with store := { s.store with waitQueue := [0] } }

/-- Two waiting channels, nothing free: channel 1's RUN job, at the head of the wait queue, has a byte of its finalize step
due, channel 0's job is that of `holding`; handle 5 holds blocks 6, 7 and 9. -/
def waiting : State :=
  let k : Job := { aJob .held .whole with
    tag := 11, channel := 1, stream := 1, operands := [operand .out 6 0 0], autoHandle := 6, engines := some (2, none)
    due := [0x41, 0x42], finalized := true }
  let s := holding.setChannel 1 { emptyChannel with queue := [k] }
  let s := (s.setWatch 1 { resetWatch with timer := some 700 }).setStream 1 { openedStream 1 runP with inFlight := 1 }
  let s := s.setEngine 2 { freshEngine with
    state := .held, binding := .dynamic 1, part := .working 1 .primary (.run (some (0x41, 1))), job := some 11 }
  let st := s.store.setBuffer 6 { freeBuffer with
    state := .pending, origin := .auto, maximum := 4096, ownerTag := 11, useCount := 1, outputLocked := true }
  let st := (st.setBuffer 4 freeBuffer).setBuffer 5 { freeBuffer with
    state := .allocated, size := 130, blocks := [6, 7, 9] }
  exhausted { s with store := { st with
    waitQueue := [1, 0], mem := [(192, 0x11), (193, 0x22), (390, 0x77)], levels := [(48, .correctable)] } }

/-- BUF FREE of three blocks: one to each waiting channel, one to the free set. -/
theorem witness_released_blocks :
    let f := req 0x13 [5]
    let s := asking waiting f
    let t := after .bufFree s
    let head (c : ChanIx) := (t.head c).map (fun j => (j.state, j.due, j.outWritten))
    s.takes 0x13 f ∧ s.coherent ∧ s.store.blocksCounted ∧ (∀ c ∈ s.store.waitQueue, s.awaitsBlock c) ∧
      (s.store.buffer 5).state = .allocated ∧ (s.store.buffer 5).useCount = 0 ∧
      head 1 = some (.running, [0x42], 1) ∧ head 0 = some (.running, [], 129) ∧
      (t.store.buffer 6).blocks = [6] ∧ (t.store.buffer 6).size = 1 ∧
      (t.store.buffer 2).blocks = [1, 2, 7] ∧ (t.store.buffer 2).size = 129 ∧ t.store.freeCount = 1 ∧
      t.store.waitQueue = [] ∧ t.store.buffer 5 = freeBuffer ∧
      t.store.mem = [(192, 0x11), (193, 0x22), (384, 0x41), (448, 0x55)] ∧ t.store.levels = [] ∧
      (t.engine 2).state = .running ∧ (t.engine 2).part = (s.engine 2).part ∧ (t.engine 0).state = .running ∧
      (t.engine 0).part = copyOf .primary (.delta 0x77 none) ∧
      (t.engine 4).part = copyOf .check (.check (crcByte .crc16 7 0x55) 2) ∧
      (t.watch 1).timer = some 0 ∧ (t.watch 0).timer = some 0 := by decide +kernel

/-- The blocks 1 and 2 of channel 0's AUTO buffer at its job's end, channel 1 waiting: one to channel 1, one to the free set
(R113, R114). -/
theorem witness_hand_off_at_an_end :
    let f := req 0x31 [9, 0, 0, 0, 0, 0]
    let abort := after .jobAbort (asking waiting f)
    let limit := after (.limitExpiry 0) waiting
    let given (t : State) : Bool :=
      decide ((t.store.buffer 6).blocks = [1] ∧ (t.store.buffer 6).size = 1 ∧ t.store.freeCount = 1 ∧
        t.store.waitQueue = [] ∧ t.store.byteAt 64 = 0x41 ∧ (t.head 1).map (·.state) = some .running ∧
        (t.watch 1).timer = some 0)
    waiting.store.blocksCounted ∧ waiting.cuttable 0 (theJob waiting) ∧ waiting.awaitsBlock 1 ∧
      waiting.freedBlocks (waiting.fallen 0 (theJob waiting)) = [1, 2] ∧
      (abort.head 0).map (·.state) = some .aborted ∧ given abort = true ∧
      (limit.head 0).map (·.reason) = some .stalled ∧ given limit = true := by decide +kernel

/-- HELD, with the AUTO buffer freed; LOADING with both parts readable; and LOADING with the check part lost: not read before
the primary engine's fault, and no working copy of it for the check engine to check. -/
theorem witness_self_check_fault :
    let t := after (.engineSelfCheckFault 4) holding
    let load := aborting (loadingTwo .correctable .clean)
    let lost := loadingTwo .clean .uncorrectable
    holding.cuttable 0 (theJob holding) ∧ (4, .check) ∈ (theJob holding).workers ∧ (theJob holding).state = .held ∧
      outcomes (.engineSelfCheckFault 4) holding = [(9, .failed, .engineFault), (10, .cancelled, .predecessor)] ∧
      t.engine 4 = offlineEngine ∧ (t.engine 0).state = .scrub ∧ (t.engine 0).binding = .pinned 0 ∧
      t.store.buffer 2 = freeBuffer ∧ t.store.freeCount = 2 ∧ t.store.waitQueue = [] ∧
      load.cuttable 0 loadingTwoJob ∧ load.loads 0 loadingTwoJob ∧
      load.readable loadingTwoJob loadingTwoJob.workers ∧
      outcome (.engineSelfCheckFault 4) load = some (.failed, .engineFault) ∧
      ((after (.engineSelfCheckFault 4) load).bank 0).corrected = 1 ∧
      (after (.engineSelfCheckFault 4) load).link.cache.map (·.frame.payload) = [[0x31, statusCode .tooLate]] ∧
      loadingTwoJob.workers = [(0, .primary)] ++ (4, .check) :: [] ∧
      ((after (.engineSelfCheckFault 4) load).bank 4).uncorrected = 1 ∧
      ((after (.engineSelfCheckFault 4) load).stream 0).checkCopy = { value := .check 3 1, level := .clean } ∧
      lost.cuttable 0 loadingTwoJob ∧ lost.loads 0 loadingTwoJob ∧
      loadingTwoJob.workers = [] ++ (0, .primary) :: [(4, .check)] ∧ lost.readable loadingTwoJob [(0, .primary)] ∧
      outcomes (.engineSelfCheckFault 0) lost = [(9, .failed, .engineFault), (10, .cancelled, .predecessor)] ∧
      ((after (.engineSelfCheckFault 0) lost).head 0).map (·.streamFaulted) = some false ∧
      ((after (.engineSelfCheckFault 0) lost).stream 0).state = .inRecord ∧
      ((after (.engineSelfCheckFault 0) lost).bank 0).uncorrected = 1 ∧
      ((after (.engineSelfCheckFault 0) lost).bank 4) = clearedBank ∧
      ¬ lost.readable loadingTwoJob ([(0, .primary)] ++ [(4, .check)]) ∧
      after (.engineSelfCheckFault 4) lost = lost := by decide +kernel

/-- At the moment of a LIMIT, or of a self-check fault of CK0 (R146, row 1), DL0 still finds its own fault, and the input
word that was due, correctable or uncorrectable; once a millisecond has passed it does not. -/
theorem witness_findings_of_the_moment :
    let s := runningTwo .input deltaP (.delta 1 none) id [operand .data 1 0 2, plainOut]
    let t := after (.limitExpiry 0) (word .correctable s)
    let u := after (.engineSelfCheckFault 4) (word .uncorrectable s)
    (word .correctable s).coherent ∧ s.late = [] ∧ (theJob s).state = .running ∧ (s.watch 0).timer = some 1000 ∧
      (s.watch 0).limit = 1000 ∧ 0 ∈ (theJob s).workers.map (·.1) ∧ 4 ∈ (theJob s).workers.map (·.1) ∧
      (theJob s).nextLead = none ∧ (theJob s).nextData = some (operand .data 1 0 2, 0) ∧ (theJob s).wordsRead = [] ∧
      ((after (.engineSelfCheckFault 0) t).bank 0).uncorrected = 1 ∧
      ((after (.engineSelfCheckFault 0) t).engine 0).offlineDue = true ∧
      t.store.levelOf 1 0 = .correctable ∧ ((after (.byteStep 0) t).bank 0).corrected = 1 ∧
      (after (.byteStep 0) t).store.levels = [] ∧ u.store.levelOf 1 0 = .uncorrectable ∧
      ((after (.byteStep 0) u).bank 0).record =
        some { severity := .uncorrected, kind := .blockData, site := some (.block 1 0), tag := some 9 } ∧
      (t.advance 1).late = [] := by decide +kernel

/-! ### Witnesses: the stall watch -/

/-- The timer stands at WARN, or at LIMIT; the outbox is full, or has one slot; a HELD job ends with its AUTO buffer. -/
theorem witness_warn_and_limit :
    let s := runningTwo .input deltaP (.delta 1 none) id [plainOut]
    let warn := s.setWatch 0 { resetWatch with timer := some 100, clock := some 70000 }
    let slot : State := { warn with reports := { warn.reports with outbox := warn.reports.outbox.tail } }
    let load := loading .middle none .clean
    let saving := s.modJob 0 9 (fun j => { j with state := .saving })
    s.tagsUnique ∧ (warn.watch 0).warn = 100 ∧ (warn.watch 0).warnTaken = false ∧ slot.reports.outbox.length = 15 ∧
      slot.firstClaim = none ∧ (after (.warnExpiry 0) warn).reports.watchPending.get 0 = some 9 ∧
      ((after (.warnExpiry 0) warn).head 0).map (·.warned) = some true ∧
      ((after (.warnExpiry 0) slot).reports.outbox.getLast?).map (·.body) =
        some (.watchNotice { channel := 0, tag := 9, jobState := .running, elapsed := 65535 }) ∧
      (load.watch 0).limit = 1000 ∧ (load.watch 0).timer = some 1000 ∧ load.tagsUnique ∧
      (theJob load).state = .loading ∧
      ((after (.limitExpiry 0) load).head 0).map (·.heldCause) = some (some .limit) ∧
      ((after (.limitExpiry 0) saving).watch 0).timer = none ∧ holding.tagsUnique ∧
      (holding.watch 0).timer = some 1000 ∧ holding.cuttable 0 (theJob holding) ∧
      outcomes (.limitExpiry 0) holding = [(9, .failed, .stalled), (10, .cancelled, .predecessor)] ∧
      (slots 1 holding).endable 0 (theJob holding) ∧
      outcomes (.limitExpiry 0) (slots 1 holding) = [(10, .cancelled, .predecessor)] ∧
      ((after (.limitExpiry 0) (slots 1 holding)).channel 0).claim = true ∧
      ((after (.limitExpiry 0) holding).store.buffer 2) = freeBuffer := by decide +kernel

/-! ### Witnesses: engines and saves -/

theorem witness_engine_pin_and_unpin :
    let f (e c : Byte) := req 0x38 [e, c]
    let g (e : Byte) := req 0x39 [e]
    let ok (c : Instr) (s t : State) (fr : Frame) (st : Status) : Bool :=
      gives c (asking s fr) ((asking t fr).answered fr .ordinary st [])
    let pinned := base.setEngine 0 { freshEngine with state := .bound, binding := .pinned 0 }
    (asking base (f 6 0)).atRest ∧ (asking base (f 6 0)).takes 0x38 (f 6 0) ∧
      (asking residing (g 0)).atRest ∧ (asking residing (g 0)).takes 0x39 (g 0) ∧
      ok .enginePin base base (f 6 0) .badField = true ∧ ok .enginePin base base (f 5 4) .badField = true ∧
      ok .enginePin pinned pinned (f 0 3) .engineState = true ∧
      ok .enginePin pinned pinned (f 1 0) .pinnedKind = true ∧ ok .enginePin base pinned (f 0 0) .ok = true ∧
      ok .engineUnpin base base (g 6) .badField = true ∧ ok .engineUnpin base base (g 5) .engineState = true ∧
      (after .engineUnpin (asking residing (g 0))).decoder = .busy (g 0) (.unpin 0) false ∧
      ok .engineUnpin pinned (base.setEngine 0 { freshEngine with state := .scrub }) (g 0) .ok = true := by
  decide +kernel

theorem witness_engine_offline_restore_and_scrub :
    let f (k e : Byte) := req k [e]
    let ok (c : Instr) (s t : State) (fr : Frame) (st : Status) : Bool :=
      gives c (asking s fr) ((asking t fr).answered fr .ordinary st [])
    let at_ (st : EngineState) := base.setEngine 5 { freshEngine with state := st }
    let counted := (at_ .offline).setBank 5 { clearedBank with uncorrected := 3 }
    let due := base.setEngine 5 { freshEngine with state := .scrub, binding := .pinned 3, offlineDue := true }
    let pinned := base.setEngine 5 { freshEngine with state := .scrub, binding := .pinned 3 }
    (asking base (f 0x3A 6)).takes 0x3A (f 0x3A 6) ∧ (asking base (f 0x3B 6)).takes 0x3B (f 0x3B 6) ∧
      (asking base (f 0x3C 6)).takes 0x3C (f 0x3C 6) ∧ (asking base (f 0x3A 5)).atRest ∧
      ok .engineOffline base base (f 0x3A 6) .badField = true ∧
      ok .engineOffline base (at_ .offline) (f 0x3A 5) .ok = true ∧
      (after .engineOffline (asking residing (f 0x3A 0))).decoder = .busy (f 0x3A 0) (.offline 0) false ∧
      ok .engineOffline (at_ .offline) (at_ .offline) (f 0x3A 5) .ok = true ∧
      ok .engineOffline (at_ .scrub) (at_ .scrub) (f 0x3A 5) .engineState = true ∧
      ok .engineRestore (at_ .scrub) (at_ .scrub) (f 0x3B 5) .engineState = true ∧
      ok .engineRestore counted (at_ .scrub) (f 0x3B 5) .ok = true ∧
      (after .engineQuery (asking residing (f 0x3C 0))).link.cache.map (·.frame.payload) =
        [[0x3C, 0, 0, 0, 1, 2, 0, 2, 0, 0, 0, 0, 0, 0]] ∧
      (at_ .scrub).atRest ∧ after (.scrubCompletion 5) (at_ .scrub) = base ∧
      (after (.scrubCompletion 5) pinned).engine 5 = { freshEngine with state := .bound, binding := .pinned 3 } ∧
      (after (.scrubCompletion 5) due).engine 5 = offlineEngine := by decide +kernel

/-- This channel's WAITING head job: a WHOLE of stream n. -/
def waitsOn (c : ChanIx) (n : StreamIx) (s : State) : State :=
  let j : Job := { aJob .waiting .whole with
    tag := 20 + n.val, channel := c, stream := n, operands := [operand .out (10 + n.val) 0 0], autoHandle := 10 + n.val }
  let s := (s.setChannel c { emptyChannel with queue := [j] }).setStream n { openedStream c deltaP with inFlight := 1 }
  { s with store := s.store.setBuffer (10 + n.val) { freeBuffer with
      state := .pending, origin := .auto, maximum := 4096, ownerTag := 20 + n.val, useCount := 1, outputLocked := true } }

/-- The allocation attempt: a scrub of DL0 ends with DL1 OFFLINE and the heads of channels 1 and 2 WAITING, the grant pointer
at 2 or at 3; both engines AVAILABLE start both; a pin placed on channel 1, and one whose scrub ends, start its head. -/
theorem witness_allocation_attempts :
    let s (grant : ChanIx) : State := { waitsOn 1 1 (waitsOn 2 2 base) with grantPtr := grant }
    let scrubbed (grant : ChanIx) : State :=
      ((s grant).setEngine 1 offlineEngine).setEngine 0 { freshEngine with state := .scrub }
    let both := (s 2).setEngine 0 { freshEngine with state := .scrub }
    let f := req 0x38 [0, 1]
    let pinned := ((s 2).setEngine 1 offlineEngine).setEngine 0 { freshEngine with
      state := .scrub, binding := .pinned 1 }
    let heads (t : State) := [1, 2].map (fun (c : ChanIx) => ((t.head c).map (·.state), (t.head c).bind (·.engines)))
    let to0 : Option JobState × Option (EngineIx × Option EngineIx) := (some .loading, some (0, none))
    let to1 : Option JobState × Option (EngineIx × Option EngineIx) := (some .loading, some (1, none))
    let waits : Option JobState × Option (EngineIx × Option EngineIx) := (some .waiting, none)
    (scrubbed 2).coherent ∧ (scrubbed 2).allocatable ∧ (scrubbed 2).unsettled = false ∧
      heads (after (.scrubCompletion 0) (scrubbed 2)) = [waits, to0] ∧
      (after (.scrubCompletion 0) (scrubbed 2)).grantPtr = 3 ∧
      heads (after (.scrubCompletion 0) (scrubbed 3)) = [to0, waits] ∧
      (after (.scrubCompletion 0) (scrubbed 3)).grantPtr = 2 ∧
      both.coherent ∧ heads (after (.scrubCompletion 0) both) = [to1, to0] ∧
      (asking (s 2) f).takes 0x38 f ∧ (asking (s 2) f).coherent ∧
      heads (after .enginePin (asking (s 2) f)) = [to0, to1] ∧
      ((after .enginePin (asking (s 2) f)).engine 0).binding = .pinned 1 ∧
      pinned.coherent ∧ pinned.served ∧ heads (after (.scrubCompletion 0) pinned) = [to0, waits] ∧
      (after (.scrubCompletion 0) pinned).grantPtr = 2 := by decide +kernel

/-- CK1, pinned and empty, is the last CHECK engine; a WAITING job needs a CHECK engine for its secondary part. -/
theorem witness_no_engine_test :
    let f := req 0x3A [5]
    let s := scene (withCheck .input deltaP) .atRest [aJob .waiting .whole, behind 10 .whole false]
    let s := (s.setEngine 4 offlineEngine).setEngine 5 { freshEngine with state := .bound, binding := .pinned 2 }
    let s := asking s f
    s.takes 0x3A f ∧ s.cuttable 0 (aJob .waiting .whole) ∧ s.headIn 0 .waiting = some (aJob .waiting .whole) ∧
      (∀ e, e ≠ 5 → engineKind e = .check → (s.engine e).state = .offline) ∧
      outcomes .engineOffline s = [(9, .failed, .noEngine), (10, .cancelled, .predecessor)] ∧
      (after .engineOffline s).engine 5 = offlineEngine := by decide +kernel

/-- A pinned engine saves a part of stream 0 for a request that waits; the check part stands on CK0, the primary on DL0. -/
def saveFor (e : EngineIx) (w : Which) (v : PartValue) (hold : Hold) (record : RecordState) (level : ErrLevel)
    (js : List Job) : State :=
  let s := scene (withCheck .input deltaP) record js
  { s.setEngine e { freshEngine with
      state := .bound, binding := .pinned 0, saveInProgress := true, part := .resident 0 w { value := v, level := level } }
    with decoder := .busy (req 0x39 [e.val]) hold false }

/-- AT-REST writes the initial value; IN-RECORD a correctable copy of either part; a MOVE with a second save under way. -/
theorem witness_save_end :
    let unpin := saveFor 0 .primary (.delta 5 none) (.unpin 0) .atRest .uncorrectable []
    let offline := saveFor 4 .check (.check 5 1) (.offline 4) .inRecord .correctable []
    let move := saveFor 0 .primary (.delta 5 none) (.move 0 3) .inRecord .clean []
    let two := move.setEngine 4 { freshEngine with
      state := .bound, binding := .pinned 0, saveInProgress := true
      part := .resident 0 .check { value := .check 5 1, level := .clean } }
    unpin.unsettled = false ∧ (unpin.engine 0).saveInProgress = true ∧ (∀ c, unpin.headIn c .waiting = none) ∧
      ((after (.saveEnd 0) unpin).stream 0).primaryCopy = { value := .delta 0 none, level := .clean } ∧
      (after (.saveEnd 0) unpin).engine 0 = { freshEngine with state := .scrub } ∧
      ((after (.saveEnd 4) offline).stream 0).checkCopy = { value := .check 5 1, level := .clean } ∧
      (after (.saveEnd 4) offline).engine 4 = offlineEngine ∧ ((after (.saveEnd 4) offline).bank 4).corrected = 1 ∧
      (∀ g, ¬ (((after (.saveEnd 0) move).engine g).state = .bound ∧
        ((after (.saveEnd 0) move).engine g).saveInProgress = true)) ∧
      ((after (.saveEnd 0) move).stream 0).home = 3 ∧ (after (.saveEnd 0) move).decoder = .idle ∧
      (after (.saveEnd 0) move).engine 0 = { freshEngine with state := .bound, binding := .pinned 0 } ∧
      two.unsettled = false ∧ (after (.saveEnd 0) two).decoder = move.decoder ∧
      ((after (.saveEnd 0) two).stream 0).home = 0 := by decide +kernel

/-- The save of a STREAM MOVE ends, and the pinned engine starts the WAITING head of its channel; a LINK OPEN has come
meanwhile, so its reply is discarded. The save of a swap ends, with a STREAM QUERY held behind it. -/
theorem witness_save_end_sets_the_next_in_motion :
    let move (discard : Bool) : State :=
      let s := (waitsOn 1 1 (streamed deltaP .inRecord base)).setEngine 0 { freshEngine with
        state := .bound, binding := .pinned 1, saveInProgress := true
        part := .resident 0 .primary { value := .delta 5 none, level := .correctable } }
      { s with decoder := .busy (req 0x24 [0, 3, 0, 0, 0, 0]) (.move 0 3) discard }
    let swap : State :=
      let s := scene deltaP .inRecord []
      let s := s.setEngine 0 { freshEngine with
        state := .loading, binding := .pinned 1, job := some 21, saveInProgress := true
        part := .resident 0 .primary { value := .delta 5 none, level := .clean } }
      let s := waitsOn 1 1 s
      let s := s.modJob 1 21 (fun j => { j with state := .loading, engines := some (0, none) })
      { s with decoder := .busy (req 0x23 [0, 0, 0, 0, 0]) .swapSave false }
    let t := after (.saveEnd 0) (move false)
    (move false).coherent ∧ (move false).unsettled = false ∧ (move false).served ∧
      (t.head 1).map (fun j => (j.state, j.engines)) = some (.loading, some (0, none)) ∧ (t.stream 0).home = 3 ∧
      (t.engine 0).part = .none ∧ (t.engine 0).saveInProgress = false ∧ (t.bank 0).corrected = 1 ∧
      t.link.cache.map (·.frame.payload) = [[0x24, 0]] ∧
      (after (.saveEnd 0) (move true)).link.cache = [] ∧ (after (.saveEnd 0) (move true)).decoder = .idle ∧
      ((after (.saveEnd 0) (move true)).stream 0).home = 3 ∧
      swap.coherent ∧ swap.unsettled = false ∧ (req 0x23 [0, 0, 0, 0, 0]).holdable .streamQuery ∧
      ((after (.saveEnd 0) swap).stream 0).primaryCopy = { value := .delta 5 none, level := .clean } ∧
      (after (.saveEnd 0) swap).decoder = .idle ∧
      (after (.saveEnd 0) swap).link.cache.map (fun r => r.frame.payload.take 2 ++ (r.frame.payload.drop 30).take 3) =
        [[0x23, 0, 1, 5, 0]] := by decide +kernel

/-- A STREAM MOVE saves both parts, and the first save finds a loss: the second part is dropped, its engine in no save, and
the reply is built at once (R14, R21, R90). An UNPIN of DL0 waits for the save of the primary part when the swap save of
the check part on CK0 finds a loss: the UNPIN completes. -/
theorem witness_save_end_drops_the_other_part :
    let move := saveFor 0 .primary (.delta 5 none) (.move 0 3) .inRecord .uncorrectable []
    let move := move.setEngine 4 { freshEngine with
      state := .bound, binding := .pinned 0, saveInProgress := true
      part := .resident 0 .check { value := .check 5 1, level := .clean } }
    let unpin := saveFor 0 .primary (.delta 5 none) (.unpin 0) .inRecord .clean []
    let j : Job := { aJob .loading .whole with stream := 1, engines := some (4, none) }
    let swap := ((unpin.setStream 1 { openedStream 0 checkP with inFlight := 1 }).setChannel 0
      { emptyChannel with queue := [j] }).setEngine 4 { freshEngine with
        state := .loading, binding := .pinned 0, job := some 9, saveInProgress := true
        part := .resident 0 .check { value := .check 5 1, level := .uncorrectable } }
    let stays := swap.setPart 4 (.resident 0 .check { value := .check 5 1, level := .clean })
    let t := after (.saveEnd 0) move
    let u := after (.saveEnd 4) swap
    let empty := { freshEngine with state := .bound, binding := .pinned 0 }
    move.unsettled = false ∧ move.coherent ∧ move.served ∧ move.jobs = [] ∧ (t.stream 0).state = .faulted ∧
      (t.stream 0).home = 3 ∧ t.engine 0 = empty ∧ t.engine 4 = empty ∧ t.decoder = .idle ∧
      t.link.cache.map (·.frame.payload) = [[0x39, 0]] ∧ (t.bank 0).uncorrected = 1 ∧ t.banks.get 4 = clearedBank ∧
      swap.unsettled = false ∧ swap.coherent ∧ swap.served ∧ (swap.jobs.all fun q => q.stream != 0) = true ∧
      (u.stream 0).state = .faulted ∧ u.engine 0 = { freshEngine with state := .scrub } ∧
      (u.engine 4).state = .loading ∧ (u.engine 4).part = .none ∧ u.decoder = .idle ∧
      (after (.saveEnd 4) stays).decoder = swap.decoder ∧ (after (.saveEnd 4) stays).engine 0 = swap.engine 0 ∧
      u.link.cache.map (·.frame.payload) = [[0x39, 0]] := by decide +kernel

/-- A loss found for an UNPIN with a QUEUED job of the stream; a MOVE without one; a swap save of an engine in LOADING for a
job of stream 1, with and without a loss. -/
theorem witness_save_end_finds_the_loss :
    let unpin := saveFor 0 .primary (.delta 5 none) (.unpin 0) .inRecord .uncorrectable
      [{ aJob .queued .middle with tag := 10 }]
    let head : Job := { aJob .running .whole with tag := 8, stream := 1, engines := some (2, none) }
    let unpin := unpin.setStream 1 { openedStream 0 runP with inFlight := 1 }
    let unpin := (unpin.setChannel 0 { unpin.channel 0 with queue := head :: (unpin.channel 0).queue }).setEngine 2
      { freshEngine with
        state := .running, binding := .dynamic 0, part := .working 1 .primary (.run none), job := some 8 }
    let move := saveFor 4 .check (.check 5 1) (.move 0 3) .inRecord .uncorrectable []
    let swap (level : ErrLevel) : State :=
      let j : Job := { aJob .loading .whole with stream := 1, engines := some (0, none) }
      let s := scene deltaP .inRecord []
      let s := (s.setStream 1 { openedStream 0 deltaP with inFlight := 1 }).setChannel 0
        { emptyChannel with queue := [j, { aJob .queued .middle with tag := 10 }] }
      let s := s.setStream 0 { s.stream 0 with inFlight := 1 }
      s.setEngine 0 { freshEngine with
        state := .loading, binding := .pinned 0, job := some 9, saveInProgress := true
        part := .resident 0 .primary { value := .delta 5 none, level := level } }
    unpin.unsettled = false ∧ (unpin.engine 0).part = .resident 0 .primary { value := .delta 5 none, level := .uncorrectable } ∧
      (unpin.stream 0).home = 0 ∧ unpin.cuttable 0 { aJob .queued .middle with tag := 10 } ∧
      outcomes (.saveEnd 0) unpin = [(8, .running, .none), (10, .cancelled, .streamFaulted)] ∧
      ((after (.saveEnd 0) unpin).stream 0).state = .faulted ∧
      (after (.saveEnd 0) unpin).engine 0 = { freshEngine with state := .scrub } ∧
      move.unsettled = false ∧ move.jobs = [] ∧ ((after (.saveEnd 4) move).stream 0).state = .faulted ∧
      ((after (.saveEnd 4) move).stream 0).home = 3 ∧ ((after (.saveEnd 4) move).bank 4).uncorrected = 1 ∧
      (swap .clean).unsettled = false ∧ (swap .clean).decoder = .idle ∧
      ((after (.saveEnd 0) (swap .clean)).stream 0).primaryCopy = { value := .delta 5 none, level := .clean } ∧
      (after (.saveEnd 0) (swap .clean)).engine 0 = { freshEngine with
        state := .loading, binding := .pinned 0, job := some 9 } ∧
      (swap .uncorrectable).cuttable 0 { aJob .queued .middle with tag := 10 } ∧
      outcomes (.saveEnd 0) (swap .uncorrectable) = [(9, .loading, .none), (10, .cancelled, .streamFaulted)] := by
  decide +kernel

/-! ### Witnesses: reports and fault banks -/

/-- Reports 0 to 15 outstanding: numbers 0, 15 and 16 are acknowledged. -/
theorem witness_report_ack_and_set :
    let f (n : Byte) := req 0x40 [n]
    let g (v : Byte) := req 0x41 [v]
    let s (fr : Frame) := asking (filled base) fr
    let reply (t : State) := t.link.cache.map (·.frame.payload)
    (s (f 0)).reports.numbered ∧ (s (f 0)).unsettled = false ∧ (s (f 0)).firstClaim = none ∧
      (s (f 0)).takes 0x40 (f 0) ∧ (s (g 1)).takes 0x41 (g 1) ∧
      (∀ q ∈ (filled base).reports.outbox, q.number ≠ 16) ∧
      after .reportAck (s (f 16)) = (s (f 16)).answered (f 16) .ordinary .badAck [] ∧
      reply (after .reportAck (s (f 0))) = [[0x40, 0, 1, 15, 16]] ∧
      (after .reportAck (s (f 0))).reports.retryTimer = some 0 ∧
      reply (after .reportAck (s (f 15))) = [[0x40, 0, 16, 0, 16]] ∧
      (after .reportAck (s (f 15))).reports.retryTimer = none ∧
      after .reportSet (s (g 1)) = (s (g 1)).answered (g 1) .ordinary .badField [] ∧
      reply (after .reportSet (s (g 0))) = [[0x41, 0, 0, 0, 16, 0, 16]] := by decide +kernel

/-- Claims that wait behind a full outbox: a fault notice, a watch notice and a JOB END enter the three slots that an
acknowledgement of report 2 frees, the fourth, of channel 3, stays. -/
theorem witness_report_ack_refills :
    let f := req 0x40 [2]
    let j (c : ChanIx) : Job := { aJob .done .whole with tag := 20 + c.val, channel := c }
    let s := (filled base).setFaultPending 6 true
    let s := (s.setChannel 1 { emptyChannel with queue := [j 1], claim := true }).setChannel 3
      { emptyChannel with queue := [j 3], claim := true }
    let s := ((s.setChannel 0 { emptyChannel with queue := [aJob .running .whole] }).setWatchPending 0 (some 9))
    let s := asking s f
    let t := after .reportAck s
    s.takes 0x40 f ∧ s.reports.numbered ∧ s.unsettled = false ∧ s.firstClaim = some (.fault 6) ∧
      t.link.cache.map (·.frame.payload) = [[0x40, 0, 3, 13, 16]] ∧
      t.reports.outbox.map (·.number) = [3, 4, 5, 6, 7, 8, 9, 10, 11, 12, 13, 14, 15, 16, 17, 18] ∧
      t.reports.faultPending.get 6 = false ∧ t.reports.watchPending.get 0 = none ∧ (t.channel 1).queue = [] ∧
      (t.channel 3).claim = true ∧ t.reports.jobEndPtr = 2 ∧ t.reports.retryTimer = some 0 := by decide +kernel

/-- Behind the claim of channel 0: an ended job, silent in MARKED mode and not in EACH mode, and a QUEUED job. One and two
reports are acknowledged. -/
theorem witness_report_ack_brings_up_the_next_entry :
    let f (n : Byte) := req 0x40 [n]
    let s (mode : Mode) (fr : Frame) : State :=
      let next : Job := { aJob .queued .whole with tag := 11 }
      let u := scene deltaP .atRest [{ aJob .failed .whole with reason := .stalled }, { aJob .done .whole with tag := 10 }, next]
      asking (u.setChannel 0 { u.channel 0 with mode := mode, silent := 3, claim := true }) fr
    let t (mode : Mode) (fr : Frame) := after .reportAck (s mode fr)
    let seen (u : State) := ((u.channel 0).queue.map (fun j => (j.tag, j.state)), (u.channel 0).claim, (u.channel 0).silent,
      u.reports.outbox.length)
    (s .each (f 0)).takes 0x40 (f 0) ∧ (s .each (f 0)).reports.numbered ∧ (s .each (f 0)).unsettled = false ∧
      (s .each (f 0)).coherent ∧ (s .each (f 0)).freesNone 0 ∧
      seen (t .each (f 0)) = ([(10, .done), (11, .queued)], true, 0, 16) ∧
      seen (t .each (f 1)) = ([(11, .loading)], false, 0, 16) ∧
      seen (t .marked (f 1)) = ([(11, .loading)], false, 1, 15) ∧
      (t .marked (f 1)).reports.jobEndPtr = 1 := by decide +kernel

/-- Each source of a report alone, with 15 reports in the outbox. -/
theorem witness_slot_arbiter :
    let s : State := { filled (queued [aJob .done .whole] base) with reports :=
      { (filled base).reports with outbox := (filled base).reports.outbox.tail, jobEndPtr := 1 } }
    let fault := s.setFaultPending 6 true
    let watch := s.setWatchPending 0 (some 9)
    let jobEnd := s.setChannel 0 { s.channel 0 with claim := true }
    s.reports.outbox.length = 15 ∧ fault.reports.faultPending.get 6 = true ∧
      (∀ a, a < (6 : BankIx) → fault.reports.faultPending.get a = false) ∧
      watch.reports.watchPending.get 0 = some 9 ∧ watch.head 0 = some (aJob .done .whole) ∧
      jobEnd.reports.jobEndPtr + Fin.ofNat 4 3 = 0 ∧ s.grantStep = s ∧
      (filled base).grantStep = filled base ∧
      fault.grantStep.reports.outbox.length = 16 ∧ fault.grantStep.reports.faultPending.get 6 = false ∧
      watch.grantStep.reports.outbox.length = 16 ∧ watch.grantStep.reports.watchPending.get 0 = none ∧
      jobEnd.grantStep.reports.outbox.length = 16 ∧ (jobEnd.grantStep.channel 0).queue = [] ∧
      jobEnd.grantStep.reports.jobEndPtr = 1 := by decide +kernel

/-- The third uncorrected arrival at bank 5; an arrival at bank 6; a masked one. -/
theorem witness_arrivals :
    let a (v : Severity) : FaultRecord := { severity := v, kind := .context, site := some (.stream 15), tag := none }
    let s (b : Bank) : State := (filled base).setBank 5 b
    let two : Bank := { clearedBank with uncorrected := 2, record := some (a .corrected) }
    (s two).reports.outbox.length = 16 ∧
      ((s two).arrive 5 (a .uncorrected)).bank 5 = { two with
        uncorrected := 3, record := some (a .uncorrected), overflow := true } ∧
      (((s two).arrive 5 (a .uncorrected)).engine 5).offlineDue = true ∧
      (slots 1 (s two)).firstClaim = none ∧
      ((slots 1 (s two)).arrive 5 (a .uncorrected)).reports.faultPending.get 5 = false ∧
      ((slots 1 (s two)).arrive 5 (a .uncorrected)).reports.outbox.getLast?.map (fun r => (r.number, r.body)) =
        some (16, .faultNotice { bank := 5, record := some (a .uncorrected), overflow := true, corrected := 0, uncorrected := 3 }) ∧
      (((slots 1 (s two)).arrive 5 (a .corrected)).reports.outbox.length = 15) ∧
      ((s { two with maskUncorrected := true }).arrive 5 (a .uncorrected)).bank 5 =
        { two with uncorrected := 3, maskUncorrected := true } ∧
      ((s two).arrive 6 (a .uncorrected)).bank 6 = { clearedBank with record := some (a .uncorrected) } ∧
      ((s two).arrive 6 (a .uncorrected)).reports.faultPending.get 6 = true := by decide +kernel

/-- WARN 59999 and LIMIT 60000 on channel 3; each refusal at its edge. -/
theorem witness_watch_set :
    let f (c : Byte) (warn limit : Nat) := req 0x48 ([c] ++ numBytes warn ++ numBytes limit)
    let s (c : Byte) (warn limit : Nat) := asking (queued [] base) (f c warn limit)
    let refuses (c : Byte) (warn limit : Nat) : Bool :=
      gives .watchSet (s c warn limit) ((s c warn limit).answered (f c warn limit) .ordinary .badField [])
    (s 4 1 2).takes 0x48 (f 4 1 2) ∧ refuses 4 1 2 = true ∧ refuses 3 60001 0 = true ∧
      refuses 3 0 60001 = true ∧ refuses 3 60000 60000 = true ∧ (base.watch 3).timer = none ∧
      (after .watchSet (s 3 59999 60000)).watch 3 = { resetWatch with warn := 59999, limit := 60000 } ∧
      (after .watchSet (s 0 0 0)).watch 0 = { resetWatch with
        warn := 0, limit := 0, timer := some 0, clock := some 1000 } := by decide +kernel

theorem witness_fault_requests :
    let r : FaultRecord := { severity := .corrected, kind := .blockData, site := some (.block 3 24), tag := some 60 }
    let bank : Bank := { clearedBank with record := some r, corrected := 1, uncorrected := 2 }
    let s (fr : Frame) : State := asking (base.setBank 4 bank) fr
    let f (k b : Byte) := req k [b]
    let m (b v : Byte) := req 0x4B [b, v]
    let refuses (c : Instr) (fr : Frame) : Bool := gives c (s fr) ((s fr).answered fr .ordinary .badField [])
    let reply (fr : Frame) := (after .faultRead (s fr)).link.cache.map (·.frame.payload)
    (s (f 0x49 7)).takes 0x49 (f 0x49 7) ∧ (s (f 0x4A 7)).takes 0x4A (f 0x4A 7) ∧
      (s (m 7 0)).takes 0x4B (m 7 0) ∧ refuses .faultRead (f 0x49 7) = true ∧
      refuses .faultClear (f 0x4A 7) = true ∧ refuses .faultMask (m 7 0) = true ∧
      refuses .faultMask (m 6 4) = true ∧
      reply (f 0x49 6) = [[0x49, 0, 6, 0, 0, 0, 0, 0, 0, 0, 0, 0, 0, 0, 0]] ∧
      reply (f 0x49 4) = [[0x49, 0, 4, 0x0D, 1, 1, 3, 24, 0, 60, 0, 1, 2, 0, 0]] ∧
      (after .faultClear (s (f 0x4A 4))).bank 4 = { clearedBank with uncorrected := 2 } ∧
      (after .faultMask (s (m 4 3))).bank 4 = { bank with maskCorrected := true, maskUncorrected := true } := by
  decide +kernel

/-! ### Witnesses: invariants and transforms -/

/-- The state after Power-on with a command waiting meets every invariant's premise, and steps. -/
theorem witness_invariants :
    let s : State := { State.reset with pending := [.powerOn] }
    s.store.canonical ∧ s.store.blocksCounted ∧ s.withinCapacity ∧ s.reports.numbered ∧ s.inRange ∧ s.coherent ∧
      gives .powerOn { s with pending := [] } State.reset = true := by decide +kernel

/-- ENGINE RESTORE lowers a count of 255. -/
theorem witness_uncorrected_counts :
    let f := req 0x3B [5]
    let s := asking ((base.setEngine 5 offlineEngine).setBank 5 { clearedBank with uncorrected := 255 }) f
    (s.bank 5).uncorrected ≤ 255 ∧ ((after .engineRestore s).bank 5).uncorrected = 0 := by decide +kernel

/-- Minimum runs 3 and 8, with runs of the escape byte. -/
theorem witness_run_record :
    let p (m : Nat) : Profile := { runP with runMin := m }
    let data : List Byte := [0xAA, 0xAA, 0xAA, 0xAA, 7, 7, 7, 0xFF, 0xAA]
    (p 3).kind = .run ∧ (p 8).kind = .run ∧ decodeRun 3 0xAA (packRecord (p 3) data) = data ∧
      decodeRun 8 0xAA (packRecord (p 8) data) = data := by decide +kernel

/-- An odd number of bytes under DELTA of both widths and WHITEN. -/
theorem witness_delta_and_whiten_records :
    let wide : Profile := { deltaP with deltaWidth := 2, deltaBase := 0x0100 }
    let white : Profile := { blankProfile with kind := .whiten, whitenSeed := 0xFFFF }
    let data : List Byte := [0x00, 0xFF, 0x80, 0x7F, 0x01]
    deltaP.kind = .delta ∧ deltaP.deltaWidth = 1 ∧ wide.deltaWidth = 2 ∧ white.kind = .whiten ∧
      decodeDelta1 0 (packRecord deltaP data) = data ∧ decodeDelta2 0x0100 (packRecord wide data) = data ∧
      packRecord white (packRecord white data) = data := by decide +kernel

end Sys2Proof.Machine.Tests
end

/-! PROOF. STREAM KEY and STREAM MOVE (R21, R22): how each owner answers, branch by branch, and what the saves that
a move begins write. -/

namespace Sys2Proof.Machine

/-! ### The entry a stream request names -/

/-- A byte that is a stream number names that stream. -/
theorem streamOf_of_toNat {b : Byte} {n : StreamIx} (h : b.toNat = n.val) : streamOf b = some n := by
  simp [streamOf, h]

/-- Only the number of a stream names it. -/
theorem toNat_of_streamOf {b : Byte} {n : StreamIx} (h : streamOf b = some n) : b.toNat = n.val := by
  simp only [streamOf, Option.dite_none_right_eq_some, Option.some.injEq] at h
  obtain ⟨_, rfl⟩ := h
  rfl

/-- A byte that is a channel number names that channel. -/
theorem channelOf_of_toNat {b : Byte} {c : ChanIx} (h : b.toNat = c.val) : channelOf b = some c := by
  simp [channelOf, h]

/-- A byte above 3 names no channel. -/
theorem channelOf_eq_none {b : Byte} (h : 3 < b.toNat) : channelOf b = none :=
  dif_neg (by omega)

variable {s : State} {f : Frame} {b : Byte} {n : StreamIx} {c : ChanIx}

/-- A request names an open entry by its number. -/
theorem State.openStream_of_open (hb : b.toNat = n.val) (ho : (s.stream n).state ≠ .free) :
    s.openStream b = some n := by
  simp [State.openStream, streamOf_of_toNat hb, ho]

/-- A number that names a FREE entry or no entry names no open one. -/
theorem State.openStream_eq_none (h : ∀ n : StreamIx, b.toNat = n.val → (s.stream n).state = .free) :
    s.openStream b = none := by
  simp only [State.openStream, Option.filter_eq_none_iff]
  intro n hn
  simp [h n (toNat_of_streamOf hn)]

/-- No request is held on a stream without a part in a swap save (R89). -/
theorem State.unlessSwap_of_notInSwap (h : ∀ n : StreamIx, b.toNat = n.val → s.inSwap n = false) (a : Answer) :
    s.unlessSwap b a = a := by
  unfold State.unlessSwap
  cases hb : streamOf b with
  | none => simp
  | some n => simp [h n (toNat_of_streamOf hb)]

/-- A given key differs only from a key that stands (R17). -/
theorem Stream.keyDiffers_eq_true {x : Stream} {given key : Quad} (hk : x.key = some key) (hd : key ≠ given) :
    x.keyDiffers given = true := by
  simp [Stream.keyDiffers, hk, hd]

/-- No key, or the key given, is no mismatch (R17). -/
theorem Stream.keyDiffers_eq_false {x : Stream} {given : Quad} (h : ∀ key, x.key = some key → key = given) :
    x.keyDiffers given = false := by
  cases hk : x.key with
  | none => simp [Stream.keyDiffers, hk]
  | some key => simp [Stream.keyDiffers, hk, h key hk]

/-! ### Taking the frame commutes with the updates -/

@[simp] theorem State.popped_requestSaving (s : State) : s.popped.requestSaving = s.requestSaving := rfl

theorem State.popped_setStream (s : State) (n : StreamIx) (x : Stream) :
    s.popped.setStream n x = (s.setStream n x).popped := rfl

theorem State.popped_setHome (s : State) (n : StreamIx) (c : ChanIx) :
    s.popped.setHome n c = (s.setHome n c).popped := rfl

/-! ### STREAM KEY (R22) -/

/-- A STREAM KEY taken is answered by its owner. -/
theorem exec_streamKey_of_takes (h : s.takes 0x25 f) :
    exec .streamKey s = .next (State.conclude .ordinary f false (ownStreamKey f s.popped)) :=
  congrArg Host.Outcome.next (State.serve_of_takes h)

theorem ownStreamKey_of_noStream (h : s.openStream (byteAt f.payload 0) = none) :
    ownStreamKey f s = .now .noStream [] s := by
  simp [ownStreamKey, h]

/-- The table of R22: with no key the value becomes the key, the key itself removes it, another value is refused. -/
theorem ownStreamKey_of_open (h : s.openStream (byteAt f.payload 0) = some n) :
    ownStreamKey f s =
      if quadAt f.payload 1 = 0 then .now .badField [] s
      else if (s.stream n).key = none then
        .now .ok [] (s.setStream n { s.stream n with key := some (quadAt f.payload 1) })
      else if (s.stream n).key = some (quadAt f.payload 1) then
        .now .ok [] (s.setStream n { s.stream n with key := none })
      else .now .keyMismatch [] s := by
  simp only [ownStreamKey, h]
  cases (s.stream n).key <;> simp

/-- STREAM KEY by R22, on an open entry. -/
theorem exec_streamKey_of_open (h : s.takes 0x25 f) (hb : (byteAt f.payload 0).toNat = n.val)
    (ho : (s.stream n).state ≠ .free) :
    exec .streamKey s = .next (
      if quadAt f.payload 1 = 0 then s.answered f .ordinary .badField []
      else if (s.stream n).key = none then
        (s.setStream n { s.stream n with key := some (quadAt f.payload 1) }).answered f .ordinary .ok []
      else if (s.stream n).key = some (quadAt f.payload 1) then
        (s.setStream n { s.stream n with key := none }).answered f .ordinary .ok []
      else s.answered f .ordinary .keyMismatch []) := by
  have hn : s.popped.openStream (byteAt f.payload 0) = some n := State.openStream_of_open hb ho
  rw [exec_streamKey_of_takes h, ownStreamKey_of_open hn]
  simp only [apply_ite (State.conclude .ordinary f false), State.popped_setStream, State.conclude_now]
  rfl

/-! ### The saves of a stream's resident parts (R9, R21) -/

/-- An engine once the save of its resident part is begun, where that part is of stream n (R9). -/
def Engine.savingOf (n : StreamIx) (en : Engine) : Engine :=
  match en.part with
  | .resident m _ _ => if m = n then { en with saveInProgress := true } else en
  | _ => en

theorem Engine.savingOf_of_resident {en : Engine} {w : Which} {k : Copy} (h : en.part = .resident n w k) :
    en.savingOf n = { en with saveInProgress := true } := by
  simp [Engine.savingOf, h]

theorem Engine.savingOf_of_noResident {en : Engine} (h : ∀ m w k, en.part = .resident m w k → m ≠ n) :
    en.savingOf n = en := by
  unfold Engine.savingOf
  split
  next m w k hp => exact if_neg (h m w k hp)
  next => rfl

theorem State.beginSaves_eq_foldl (s : State) (n : StreamIx) :
    s.beginSaves n = allEngines.foldl (fun s e => s.setEngine e ((s.engine e).savingOf n)) s := by
  have step (s : State) (e : EngineIx) :
      (match (s.engine e).part with
        | .resident m _ _ => if m = n then s.setEngine e { s.engine e with saveInProgress := true } else s
        | _ => s) = s.setEngine e ((s.engine e).savingOf n) := by
    unfold Engine.savingOf
    split
    · split <;> simp
    · simp
  unfold State.beginSaves
  congr 1
  funext s e
  exact (step s e).trans rfl

/-- A pass over distinct engines updates each of them once. -/
theorem State.foldl_setEngine_engine (g : Engine → Engine) (e : EngineIx) :
    ∀ (l : List EngineIx) (s : State), l.Nodup →
      (l.foldl (fun s e => s.setEngine e (g (s.engine e))) s).engine e =
        if e ∈ l then g (s.engine e) else s.engine e
  | [], _, _ => by simp
  | a :: l, s, h => by
    obtain ⟨ha, hl⟩ := List.nodup_cons.mp h
    rw [List.foldl_cons, State.foldl_setEngine_engine g e l _ hl]
    by_cases he : e = a
    · subst he; simp [ha]
    · simp [he]

theorem State.beginSaves_engine (s : State) (n : StreamIx) (e : EngineIx) :
    (s.beginSaves n).engine e = (s.engine e).savingOf n := by
  have hall : ∀ e : EngineIx, e ∈ allEngines := by decide
  rw [State.beginSaves_eq_foldl, State.foldl_setEngine_engine _ _ _ _ (by decide), if_pos (hall e)]

/-- Beginning saves writes engines and nothing else. -/
theorem State.beginSaves_frame (s : State) (n : StreamIx) :
    s.beginSaves n = { s with engines := (s.beginSaves n).engines } := by
  rw [State.beginSaves_eq_foldl]
  refine foldl_keeps (P := fun t => t = { s with engines := t.engines }) (fun t e ht => ?_) allEngines s rfl
  rw [ht]
  rfl

theorem State.popped_beginSaves (s : State) (n : StreamIx) : s.popped.beginSaves n = (s.beginSaves n).popped := by
  rw [State.beginSaves_eq_foldl, State.beginSaves_eq_foldl]
  exact List.foldl_hom State.popped (fun _ _ => rfl)

/-- With no resident part of the stream there is no save to begin. -/
theorem State.beginSaves_of_noResident (h : ∀ e m w k, (s.engine e).part = .resident m w k → m ≠ n) :
    s.beginSaves n = s := by
  rw [State.beginSaves_eq_foldl]
  exact foldl_id _ fun e _ => by rw [Engine.savingOf_of_noResident (h e), State.setEngine_self]

/-- The save begun on a BOUND engine is one that the request waits for (R90). -/
theorem State.requestSaving_beginSaves {e : EngineIx} {w : Which} {k : Copy} (hb : (s.engine e).state = .bound)
    (hp : (s.engine e).part = .resident n w k) : (s.beginSaves n).requestSaving = true := by
  have hall : ∀ e : EngineIx, e ∈ allEngines := by decide
  refine List.any_eq_true.mpr ⟨e, hall e, ?_⟩
  simp [State.beginSaves_engine, Engine.savingOf_of_resident hp, hb]

/-! ### STREAM MOVE (R21) -/

/-- A STREAM MOVE taken is answered by its owner. -/
theorem exec_streamMove_of_takes (h : s.takes 0x24 f) :
    exec .streamMove s = .next (State.conclude .ordinary f false (ownStreamMove f s.popped)) :=
  congrArg Host.Outcome.next (State.serve_of_takes h)

section MoveCases

variable (hs : ∀ n : StreamIx, (byteAt f.payload 0).toNat = n.val → s.inSwap n = false)
include hs

theorem ownStreamMove_of_badChannel (hc : channelOf (byteAt f.payload 1) = none) :
    ownStreamMove f s = .now .badField [] s := by
  simp [ownStreamMove, State.unlessSwap_of_notInSwap hs, hc]

theorem ownStreamMove_of_noStream (hc : channelOf (byteAt f.payload 1) = some c)
    (ho : s.openStream (byteAt f.payload 0) = none) : ownStreamMove f s = .now .noStream [] s := by
  simp [ownStreamMove, State.unlessSwap_of_notInSwap hs, hc, ho]

/-- The checks of the entry and then the move: after the saves where one is in progress, else at once. -/
theorem ownStreamMove_of_open (hc : channelOf (byteAt f.payload 1) = some c)
    (ho : s.openStream (byteAt f.payload 0) = some n) :
    ownStreamMove f s =
      if (s.stream n).keyDiffers (quadAt f.payload 2) then .now .keyMismatch [] s
      else if 0 < (s.stream n).inFlight then .now .busy [] s
      else if (s.beginSaves n).requestSaving then .later (.move n c) (s.beginSaves n)
      else .now .ok [] ((s.beginSaves n).setHome n c) := by
  simp [ownStreamMove, State.unlessSwap_of_notInSwap hs, hc, ho]

end MoveCases

/-- STREAM MOVE by R21, on an open entry and an existing channel: the checks of the entry, then the move. -/
theorem exec_streamMove_of_open (h : s.takes 0x24 f)
    (hs : ∀ n : StreamIx, (byteAt f.payload 0).toNat = n.val → s.inSwap n = false)
    (hb : (byteAt f.payload 0).toNat = n.val) (hc : (byteAt f.payload 1).toNat = c.val)
    (ho : (s.stream n).state ≠ .free) :
    exec .streamMove s = .next (
      if (s.stream n).keyDiffers (quadAt f.payload 2) then s.answered f .ordinary .keyMismatch []
      else if 0 < (s.stream n).inFlight then s.answered f .ordinary .busy []
      else if (s.beginSaves n).requestSaving then (s.beginSaves n).holding f (.move n c)
      else ((s.beginSaves n).setHome n c).answered f .ordinary .ok []) := by
  have hn : s.popped.openStream (byteAt f.payload 0) = some n := State.openStream_of_open hb ho
  rw [exec_streamMove_of_takes h, ownStreamMove_of_open (s := s.popped) hs (channelOf_of_toNat hc) hn]
  simp only [State.popped_stream, State.popped_beginSaves, State.popped_requestSaving, State.popped_setHome,
    apply_ite (State.conclude .ordinary f false), State.conclude_now, State.conclude_later]

/-! ### The statement -/

/-- Settles O24: each refusal, and each line of the two rules, is one branch of the owner's answer. -/
theorem streamKeyAndMoveFollowTheirRules : Obligations.StreamKeyAndMoveFollowTheirRules := by
  refine ⟨fun s f h => ⟨fun hfree => ?keyNoStream, fun n hb ho => ?keyOpen⟩,
    fun s f h hs => ⟨fun hhome => ?moveBadField, fun hhome hfree => ?moveNoStream, fun n c hb hc ho => ?moveOpen⟩⟩
  case keyNoStream =>
    rw [exec_streamKey_of_takes h, ownStreamKey_of_noStream (s := s.popped) (State.openStream_eq_none hfree),
      State.conclude_now]
  case keyOpen =>
    rw [exec_streamKey_of_open h hb ho]
    refine ⟨fun hz => ?badField, fun hz hk => ?setsKey, fun hz hk => ?removesKey, fun key hz hk hd => ?mismatch⟩
    case badField => rw [if_pos hz]
    case setsKey => rw [if_neg hz, if_pos hk]
    case removesKey => rw [if_neg hz, if_neg (by simp [hk]), if_pos hk]
    case mismatch => rw [if_neg hz, if_neg (by simp [hk]), if_neg (by simp [hk, hd])]
  case moveBadField =>
    rw [exec_streamMove_of_takes h, ownStreamMove_of_badChannel (s := s.popped) hs (channelOf_eq_none hhome),
      State.conclude_now]
  case moveNoStream =>
    have hc : channelOf (byteAt f.payload 1) = some ⟨_, Nat.lt_succ_of_le hhome⟩ := channelOf_of_toNat rfl
    rw [exec_streamMove_of_takes h,
      ownStreamMove_of_noStream (s := s.popped) hs hc (State.openStream_eq_none hfree), State.conclude_now]
  case moveOpen =>
    rw [exec_streamMove_of_open h hs hb hc ho]
    refine ⟨fun key hk hd => ?mismatch, fun hk hj => ?busy, fun hk hj => ?accepted⟩
    case mismatch => rw [if_pos (Stream.keyDiffers_eq_true hk hd)]
    case busy => rw [Stream.keyDiffers_eq_false hk, if_neg Bool.false_ne_true, if_pos hj]
    case accepted =>
      rw [Stream.keyDiffers_eq_false hk, if_neg Bool.false_ne_true, if_neg hj.not_gt]
      refine ⟨fun hr hq => ?atOnce, fun e w k hbound hp => ?afterSaves⟩
      case atOnce => rw [State.beginSaves_of_noResident hr, hq, if_neg Bool.false_ne_true, State.setHome]
      case afterSaves =>
        refine ⟨s.beginSaves n, ?_, s.beginSaves_frame n, fun g => (s.beginSaves_engine n g).trans rfl⟩
        rw [if_pos (State.requestSaving_beginSaves hbound hp)]

end Sys2Proof.Machine

/-! PROOF. The rules of the buffer store that its requests rest on: the entries of the handle table as a list (R100),
the physical addresses of a buffer (R98), a write of buffer bytes (R98), and blocks handed to a buffer (R99). -/

namespace Sys2Proof.Machine

/- One proof after another, on the thread that reads the text: the check's memory limit leaves no room for a further
thread once the tests above have run. -/
set_option Elab.async false

variable {st u : Store} {b : Buffer} {h g o a w : Nat} {v : Byte}

/-! ### The handle table as a list (R100) -/

/-- The handles in number order give the entries of the table in order. -/
theorem Store.handles_map {β : Type} (st : Store) (f : Buffer → β) :
    allHandles.map (fun h => f (st.buffer h)) = st.handles.toList.map f := by
  apply List.ext_getElem
  · simp [allHandles]
  · intro i hi _
    have hi : i < 48 := by simpa [allHandles] using hi
    simp [allHandles, Nat.add_comm 1 i, Store.buffer, hi]

/-- The number of handles in some condition, counted along the numbers or along the table. -/
theorem Store.length_filter_handles (st : Store) (p : Buffer → Bool) :
    (allHandles.filter (fun h => p (st.buffer h))).length = (st.handles.toList.filter p).length := by
  have h : (allHandles.map st.buffer).filter p = st.handles.toList.filter p := by
    rw [st.handles_map (fun b => b), List.map_id']
  rw [← h, List.filter_map, List.length_map]
  rfl

/-- A handle names an entry of the table, or reads as FREE (R100). -/
theorem Store.buffer_mem_or_free (st : Store) (h : Nat) :
    st.buffer h ∈ st.handles.toList ∨ st.buffer h = freeBuffer := by
  cases h with
  | zero => exact .inr rfl
  | succ k =>
    rcases Nat.lt_or_ge k 48 with hk | hk
    · exact .inl (by simp [Store.buffer, hk])
    · exact .inr (by simp [Store.buffer, hk])

/-- Only handles 1 to 48 are ever other than FREE (R100). -/
theorem Store.handle_range (hs : (st.buffer h).state ≠ .free) : 1 ≤ h ∧ h ≤ 48 := by
  cases h with
  | zero => exact absurd rfl hs
  | succ k =>
    rcases Nat.lt_or_ge k 48 with hk | hk
    · omega
    · exact absurd (by simp [Store.buffer, hk, freeBuffer]) hs

/-- The blocks of every buffer exist, each once (R99). -/
theorem Store.blocksCounted_buffer (hc : st.blocksCounted) (h : Nat) :
    (st.buffer h).blocks.Nodup ∧ ∀ blk ∈ (st.buffer h).blocks, blk < 512 := by
  obtain ⟨hnodup, hlt, -, -⟩ := hc
  rcases st.buffer_mem_or_free h with hm | hf
  · exact ⟨(List.nodup_flatMap.mp hnodup).1 _ hm, fun blk hb => hlt blk (List.mem_flatMap.mpr ⟨_, hm, hb⟩)⟩
  · simp [hf, freeBuffer]

/-- A FREE handle holds no block (R100). -/
theorem Store.blocksCounted_free (hc : st.blocksCounted) (hs : (st.buffer h).state = .free) :
    (st.buffer h).blocks = [] := by
  obtain ⟨-, -, -, hfree⟩ := hc
  rcases st.buffer_mem_or_free h with hm | hf
  · exact hfree _ hm hs
  · simp [hf, freeBuffer]

/-- With one entry of a list replaced, its share of the joined list is exchanged. -/
theorem flatMap_set_perm {α β : Type} [DecidableEq β] (f : α → List β) (x : α) {l : List α} {i : Nat}
    (hi : i < l.length) : ((l.set i x).flatMap f ++ f l[i]).Perm (l.flatMap f ++ f x) := by
  have hl : l.take i ++ l[i] :: l.drop (i + 1) = l := by simp
  have hf : l.flatMap f = (l.take i).flatMap f ++ (f l[i] ++ (l.drop (i + 1)).flatMap f) := by
    rw [← List.flatMap_cons, ← List.flatMap_append, hl]
  rw [List.set_eq_take_append_cons_drop, if_pos hi, List.flatMap_append, List.flatMap_cons, hf, List.perm_iff_count]
  intro y
  simp only [List.count_append]
  omega

/-- With one entry of the handle table replaced, its blocks are exchanged among those held (R99). -/
theorem Store.heldBlocks_setBuffer (hh : 1 ≤ h ∧ h ≤ 48) :
    ((st.setBuffer h b).heldBlocks ++ (st.buffer h).blocks).Perm (st.heldBlocks ++ b.blocks) := by
  obtain ⟨k, rfl⟩ : ∃ k, h = k + 1 := ⟨h - 1, by omega⟩
  have hk : k < 48 := by omega
  have hb : st.buffer (k + 1) = st.handles.toList[k]'(by simpa using hk) := by simp [Store.buffer, hk]
  rw [hb]
  simpa only [Store.heldBlocks, Store.setBuffer, Vector.toList_setIfInBounds] using
    flatMap_set_perm (·.blocks) b (l := st.handles.toList) (i := k) (by simpa using hk)

/-- The entries of the table after one is replaced. -/
theorem Store.mem_handles_setBuffer {x : Buffer} (hx : x ∈ (st.setBuffer h b).handles.toList) :
    x ∈ st.handles.toList ∨ x = b := by
  cases h with
  | zero => exact .inl hx
  | succ k => exact List.mem_or_eq_of_mem_set (by simpa only [Store.setBuffer, Vector.toList_setIfInBounds] using hx)

@[simp] theorem Store.setBuffer_mem : (st.setBuffer h b).mem = st.mem := by cases h <;> rfl
@[simp] theorem Store.setBuffer_levels : (st.setBuffer h b).levels = st.levels := by cases h <;> rfl
@[simp] theorem Store.setBuffer_freeCount : (st.setBuffer h b).freeCount = st.freeCount := by cases h <;> rfl
@[simp] theorem Store.setBuffer_reserve : (st.setBuffer h b).reserve = st.reserve := by cases h <;> rfl
@[simp] theorem Store.setBuffer_waitQueue : (st.setBuffer h b).waitQueue = st.waitQueue := by cases h <;> rfl

/-- Replacing an entry of the handle table moves no byte. -/
theorem Store.byteAt_setBuffer : (st.setBuffer h b).byteAt a = st.byteAt a := by simp [Store.byteAt]

/-- Replacing an entry of the handle table moves no word level. -/
theorem Store.levelAt_setBuffer : (st.setBuffer h b).levelAt w = st.levelAt w := by simp [Store.levelAt]

/-- The lowest FREE handle: none where every handle is in use. -/
theorem Store.freeHandle_eq_none (hn : ∀ h, 1 ≤ h → h ≤ 48 → (st.buffer h).state ≠ .free) :
    st.freeHandle = none :=
  List.find?_range'_eq_none.mpr fun h h1 h2 => by simpa using hn h h1 (by omega)

/-- The lowest FREE handle, where there is one (R100). -/
theorem Store.freeHandle_eq_some (h1 : 1 ≤ h) (h2 : h ≤ 48) (hs : (st.buffer h).state = .free)
    (hlow : ∀ g, 1 ≤ g → g < h → (st.buffer g).state ≠ .free) : st.freeHandle = some h :=
  List.find?_range'_eq_some.mpr
    ⟨by simpa using hs, List.mem_range'_1.mpr (by omega), fun g hg hl => by simpa using hlow g hg hl⟩

/-! ### Physical addresses (R98) -/

/-- A byte of a buffer lies at its place in the block that its offset falls in. -/
theorem Buffer.address_eq_some_iff : b.address o = some a ↔ b.blocks[o / 64]? = some (a / 64) ∧ a % 64 = o % 64 := by
  simp only [Buffer.address, Option.map_eq_some_iff]
  constructor
  · rintro ⟨blk, hb, rfl⟩
    exact ⟨by rw [hb]; congr 1; omega, by omega⟩
  · rintro ⟨hb, ho⟩
    exact ⟨a / 64, hb, by omega⟩

/-- No two bytes of a buffer share an address, its blocks being distinct. -/
theorem Buffer.address_inj {i j : Nat} (hd : b.blocks.Nodup) (hi : b.address i = some a) (hj : b.address j = some a) :
    i = j := by
  obtain ⟨hbi, hi⟩ := Buffer.address_eq_some_iff.mp hi
  obtain ⟨hbj, hj⟩ := Buffer.address_eq_some_iff.mp hj
  have hlt : i / 64 < b.blocks.length := (List.getElem?_eq_some_iff.mp hbi).1
  have hq : i / 64 = j / 64 := (List.getElem?_inj hlt hd).mp (hbi.trans hbj.symm)
  omega

/-- The blocks of the buffer are among the store's 512 (R99). -/
def Buffer.blocksExist (b : Buffer) : Prop := ∀ blk ∈ b.blocks, blk < 512

/-- Every address of a buffer is one of the memory's 32768, its blocks being of the 512. -/
theorem Buffer.address_lt (hb : b.blocksExist) (ho : b.address o = some a) : a < 32768 := by
  have := hb _ (List.mem_of_getElem? (Buffer.address_eq_some_iff.mp ho).1)
  omega

/-- The address a is that of one of the n bytes of the buffer from offset o. -/
def Buffer.written (b : Buffer) (o n a : Nat) : Prop := ∃ k, k < n ∧ b.address (o + k) = some a

/-- The word w holds one of the n bytes of the buffer from offset o. -/
def Buffer.covered (b : Buffer) (o n w : Nat) : Prop := ∃ a, b.written o n a ∧ a / 8 = w

theorem Buffer.not_written_zero : ¬ b.written o 0 a := fun ⟨_, hk, _⟩ => Nat.not_lt_zero _ hk

theorem Buffer.written_succ {n : Nat} : b.written o (n + 1) a ↔ b.address o = some a ∨ b.written (o + 1) n a := by
  constructor
  · rintro ⟨k, hk, ha⟩
    cases k with
    | zero => exact .inl ha
    | succ k => exact .inr ⟨k, by omega, by rw [Nat.add_assoc, Nat.add_comm 1 k]; exact ha⟩
  · rintro (ha | ⟨k, hk, ha⟩)
    · exact ⟨0, by omega, ha⟩
    · exact ⟨k + 1, by omega, by rw [Nat.add_comm k 1, ← Nat.add_assoc]; exact ha⟩

theorem Buffer.not_covered_zero : ¬ b.covered o 0 w := fun ⟨_, hw, _⟩ => Buffer.not_written_zero hw

theorem Buffer.covered_succ {n : Nat} :
    b.covered o (n + 1) w ↔ (b.address o).map (· / 8) = some w ∨ b.covered (o + 1) n w := by
  simp only [Buffer.covered, Buffer.written_succ, or_and_right, exists_or, Option.map_eq_some_iff]

/-! ### A write of buffer bytes (R98) -/

/-- What a write elsewhere in its word leaves of a byte: its value, or 00H where the word is uncorrectable (R98). -/
def Store.keptAt (st : Store) (a : Nat) : Byte := if st.levelAt (a / 8) = .uncorrectable then 0 else st.byteAt a

theorem Store.keptAt_of_uncorrectable (hl : st.levelAt (a / 8) = .uncorrectable) : st.keptAt a = 0 := if_pos hl

theorem Store.keptAt_of_readable (hl : st.levelAt (a / 8) ≠ .uncorrectable) : st.keptAt a = st.byteAt a := if_neg hl

/-- Every byte after a byte is stored: the one written, those its word keeps, and those of other words as before. -/
theorem Store.byteAt_storeByte_cases (hc : st.canonical) (a p : Nat) (v : Byte) :
    (st.storeByte a v).byteAt p =
      if p = a then v else if p / 8 = a / 8 then st.keptAt p else st.byteAt p := by
  by_cases hl : st.levelAt (a / 8) = .uncorrectable
  · have hz : (st.storeByte a v).byteAt p = if p = a then v else (st.zeroWord (a / 8)).byteAt p := by
      simp only [Store.storeByte, if_pos hl, Store.byteAt]
      exact sparseGet_sparseSet (Store.zeroWord_canonical hc).1
    rw [hz]
    simp only [Store.zeroWord, Store.byteAt, sparseGet_sparseDrop, Store.keptAt, beq_iff_eq]
    split
    · rfl
    · split
      · simp [*]
      · rfl
  · rw [Store.byteAt_storeByte hc hl]
    split
    · rfl
    · split
      · rw [Store.keptAt_of_readable (by simp [*])]
      · rfl

/-- Seen through what words keep, a stored byte changes that byte alone. -/
theorem Store.keptAt_storeByte (hc : st.canonical) (a p : Nat) (v : Byte) :
    (st.storeByte a v).keptAt p = if p = a then v else st.keptAt p := by
  unfold Store.keptAt
  rw [Store.levelAt_storeByte hc, Store.byteAt_storeByte_cases hc]
  by_cases hpa : p = a
  · simp [hpa]
  · by_cases hw : p / 8 = a / 8 <;> simp [hpa, hw, Store.keptAt]

theorem Store.writeAt_of_address_none (ho : (st.buffer h).address o = none) : st.writeAt h o v = st := by
  simp [Store.writeAt, ho]

theorem Store.writeAt_of_address (hb : (st.buffer h).blocksExist)
    (ho : (st.buffer h).address o = some a) : st.writeAt h o v = st.storeByte a v := by
  simp [Store.writeAt, ho, Buffer.address_lt hb ho]

/-- A stored byte changes bytes and word levels and nothing else. -/
theorem Store.storeByte_frame : st.storeByte a v =
    { st with mem := (st.storeByte a v).mem, levels := (st.storeByte a v).levels } := by
  simp only [Store.storeByte]
  split <;> rfl

/-- A buffer byte written changes bytes and word levels and nothing else. -/
theorem Store.writeAt_frame : st.writeAt h o v =
    { st with mem := (st.writeAt h o v).mem, levels := (st.writeAt h o v).levels } := by
  unfold Store.writeAt
  split
  · split
    · exact Store.storeByte_frame
    · rfl
  · rfl

/-- A write of buffer bytes changes bytes and word levels and nothing else (R104). -/
theorem Store.writeBytes_frame : ∀ (bs : List Byte) (o : Nat) (st : Store), st.writeBytes h o bs =
    { st with mem := (st.writeBytes h o bs).mem, levels := (st.writeBytes h o bs).levels }
  | [], _, _ => rfl
  | v :: bs, o, st => by
    have hw := Store.writeAt_frame (st := st) (h := h) (o := o) (v := v)
    rw [Store.writeBytes, Store.writeBytes_frame bs (o + 1) (st.writeAt h o v)]
    generalize (st.writeAt h o v).writeBytes h (o + 1) bs = u at *
    rw [hw]

@[simp] theorem Store.writeAt_buffer : (st.writeAt h o v).buffer g = st.buffer g := by
  rw [Store.writeAt_frame]
  cases g <;> rfl

/-- The effect of one byte of a write on a word's level. -/
theorem Store.levelAt_writeAt (hc : st.canonical) (hb : (st.buffer h).blocksExist) :
    (st.writeAt h o v).levelAt w =
      if ((st.buffer h).address o).map (· / 8) = some w then .clean else st.levelAt w := by
  cases ho : (st.buffer h).address o with
  | none => simp [Store.writeAt_of_address_none ho]
  | some a => simp [Store.writeAt_of_address hb ho, Store.levelAt_storeByte hc, eq_comm]

/-- The effect of one byte of a write on what the words keep. -/
theorem Store.keptAt_writeAt (hc : st.canonical) (hb : (st.buffer h).blocksExist) :
    (st.writeAt h o v).keptAt a = if (st.buffer h).address o = some a then v else st.keptAt a := by
  cases ho : (st.buffer h).address o with
  | none => simp [Store.writeAt_of_address_none ho]
  | some a => simp [Store.writeAt_of_address hb ho, Store.keptAt_storeByte hc, eq_comm]

/-- One byte of a write leaves every byte outside its word. -/
theorem Store.byteAt_writeAt_of_otherWord (hc : st.canonical) (hb : (st.buffer h).blocksExist)
    (hw : ((st.buffer h).address o).map (· / 8) ≠ some (a / 8)) : (st.writeAt h o v).byteAt a = st.byteAt a := by
  cases ho : (st.buffer h).address o with
  | none => rw [Store.writeAt_of_address_none ho]
  | some p =>
    have hw : a / 8 ≠ p / 8 := fun e => hw (by simp [ho, e])
    rw [Store.writeAt_of_address hb ho, Store.byteAt_storeByte_cases hc, if_neg (fun e => hw (by rw [e])), if_neg hw]

/-- Every covered word is clean after a write (R98). -/
theorem Store.levelAt_writeBytes_of_covered : ∀ (bs : List Byte) (o : Nat) (st : Store), st.canonical →
    (st.buffer h).blocksExist → ((st.buffer h).covered o bs.length w ∨ st.levelAt w = .clean) →
    (st.writeBytes h o bs).levelAt w = .clean
  | [], _, _, _, _, hw => hw.resolve_left Buffer.not_covered_zero
  | v :: bs, o, st, hc, hb, hw => by
    refine Store.levelAt_writeBytes_of_covered bs (o + 1) _ (Store.writeAt_canonical hc) (by simpa using hb) ?_
    rw [Store.writeAt_buffer, Store.levelAt_writeAt hc hb]
    rw [List.length_cons, Buffer.covered_succ] at hw
    split
    next => exact .inr rfl
    next hn => exact hw.imp_left (Or.resolve_left · hn)

/-- A write leaves the level of every word that it does not cover. -/
theorem Store.levelAt_writeBytes_of_not_covered : ∀ (bs : List Byte) (o : Nat) (st : Store), st.canonical →
    (st.buffer h).blocksExist → ¬ (st.buffer h).covered o bs.length w →
    (st.writeBytes h o bs).levelAt w = st.levelAt w
  | [], _, _, _, _, _ => rfl
  | v :: bs, o, st, hc, hb, hw => by
    rw [List.length_cons, Buffer.covered_succ, not_or] at hw
    obtain ⟨hw0, hw⟩ := hw
    rw [Store.writeBytes, Store.levelAt_writeBytes_of_not_covered bs (o + 1) _ (Store.writeAt_canonical hc)
      (by simpa using hb) (by simpa using hw), Store.levelAt_writeAt hc hb, if_neg hw0]

/-- A write leaves every byte of the words that it does not cover. -/
theorem Store.byteAt_writeBytes_of_not_covered : ∀ (bs : List Byte) (o : Nat) (st : Store), st.canonical →
    (st.buffer h).blocksExist → ¬ (st.buffer h).covered o bs.length (a / 8) →
    (st.writeBytes h o bs).byteAt a = st.byteAt a
  | [], _, _, _, _, _ => rfl
  | v :: bs, o, st, hc, hb, hw => by
    rw [List.length_cons, Buffer.covered_succ, not_or] at hw
    obtain ⟨hw0, hw⟩ := hw
    rw [Store.writeBytes, Store.byteAt_writeBytes_of_not_covered bs (o + 1) _ (Store.writeAt_canonical hc)
      (by simpa using hb) (by simpa using hw), Store.byteAt_writeAt_of_otherWord hc hb hw0]

/-- A write leaves of every other byte what a word of its level keeps. -/
theorem Store.keptAt_writeBytes_of_not_written : ∀ (bs : List Byte) (o : Nat) (st : Store), st.canonical →
    (st.buffer h).blocksExist → ¬ (st.buffer h).written o bs.length a →
    (st.writeBytes h o bs).keptAt a = st.keptAt a
  | [], _, _, _, _, _ => rfl
  | v :: bs, o, st, hc, hb, ha => by
    rw [List.length_cons, Buffer.written_succ, not_or] at ha
    obtain ⟨ha0, ha⟩ := ha
    rw [Store.writeBytes, Store.keptAt_writeBytes_of_not_written bs (o + 1) _ (Store.writeAt_canonical hc)
      (by simpa using hb) (by simpa using ha), Store.keptAt_writeAt hc hb, if_neg ha0]

/-- A write stores each byte at its place: no later byte of it falls on the same address. -/
theorem Store.keptAt_writeBytes_of_written : ∀ (bs : List Byte) (o k : Nat) (st : Store), st.canonical →
    (st.buffer h).blocksExist → (st.buffer h).blocks.Nodup → k < bs.length →
    (st.buffer h).address (o + k) = some a → (st.writeBytes h o bs).keptAt a = bs.getD k 0
  | v :: bs, o, 0, st, hc, hb, hd, _, ha => by
    have ha : (st.buffer h).address o = some a := ha
    have hlater : ¬ (st.buffer h).written (o + 1) bs.length a := by
      rintro ⟨i, -, hi⟩
      have := Buffer.address_inj hd hi ha
      omega
    rw [Store.writeBytes, Store.keptAt_writeBytes_of_not_written bs (o + 1) _ (Store.writeAt_canonical hc)
      (by simpa using hb) (by simpa using hlater), Store.keptAt_writeAt hc hb, if_pos ha, List.getD_cons_zero]
  | v :: bs, o, k + 1, st, hc, hb, hd, hk, ha => by
    have ha : (st.buffer h).address (o + 1 + k) = some a := by rwa [Nat.add_assoc, Nat.add_comm 1 k]
    rw [Store.writeBytes, Store.keptAt_writeBytes_of_written bs (o + 1) k _ (Store.writeAt_canonical hc)
      (by simpa using hb) (by simpa using hd) (Nat.lt_of_succ_lt_succ hk) (by simpa using ha), List.getD_cons_succ]

/-- In a covered word a byte after a write is what the write put or left there. -/
theorem Store.byteAt_writeBytes_of_covered {bs : List Byte} (hc : st.canonical)
    (hb : (st.buffer h).blocksExist) (hw : (st.buffer h).covered o bs.length (a / 8)) :
    (st.writeBytes h o bs).byteAt a = (st.writeBytes h o bs).keptAt a := by
  rw [Store.keptAt_of_readable]
  simp [Store.levelAt_writeBytes_of_covered bs o st hc hb (.inl hw)]

/-! ### Blocks handed to a buffer (R99) -/

/-- The store u is st with these blocks, cleared, handed to a buffer (R99). -/
structure Store.handedTo (st : Store) (h : Nat) (taken : List Nat) (u : Store) : Prop where
  buffer : ∀ g, u.buffer g =
    if g = h then { st.buffer h with blocks := (st.buffer h).blocks ++ taken } else st.buffer g
  freeCount : u.freeCount = st.freeCount - taken.length
  reserve : u.reserve = st.reserve
  waitQueue : u.waitQueue = st.waitQueue
  byteAt : ∀ a, u.byteAt a = if a / 64 ∈ taken then 0 else st.byteAt a
  levelAt : ∀ w, u.levelAt w = if w / 8 ∈ taken then .clean else st.levelAt w

/-- These are the lowest numbers below 512 outside a list, in rising order (R99). -/
structure LowestOutside (used taken : List Nat) : Prop where
  outside : ∀ b ∈ taken, b < 512 ∧ b ∉ used
  rising : taken.Pairwise (· < ·)
  lowest : ∀ b ∈ taken, ∀ a < b, a ∈ used ∨ a ∈ taken

theorem LowestOutside.nil (used : List Nat) : LowestOutside used [] := ⟨by simp, .nil, by simp⟩

/-- The lowest number outside a list, then the lowest outside of what is used with it. -/
theorem LowestOutside.cons {used used' taken : List Nat} {blk : Nat} (hlt : blk < 512) (hout : blk ∉ used)
    (hlow : ∀ a < blk, a ∈ used) (hused : ∀ a, a ∈ used' ↔ a = blk ∨ a ∈ used) (ht : LowestOutside used' taken) :
    LowestOutside used (blk :: taken) where
  outside := List.forall_mem_cons.mpr
    ⟨⟨hlt, hout⟩, fun b hb => (ht.outside b hb).imp_right (mt fun hu => (hused b).mpr (.inr hu))⟩
  rising := by
    refine List.pairwise_cons.mpr ⟨fun b hb => ?_, ht.rising⟩
    obtain ⟨hne, hnu⟩ := not_or.mp ((hused b).not.mp (ht.outside b hb).2)
    have := mt (hlow b) hnu
    omega
  lowest := by
    refine List.forall_mem_cons.mpr ⟨fun a ha => .inl (hlow a ha), fun b hb a ha => ?_⟩
    rcases ht.lowest b hb a ha with hu | hm
    · exact ((hused a).mp hu).elim (fun e => .inr (by simp [e])) .inl
    · exact .inr (List.mem_cons_of_mem _ hm)

/-- With no block handed to a buffer the store is as it was. -/
theorem Store.handedTo_nil (st : Store) (h : Nat) : st.handedTo h [] st :=
  ⟨fun g => by split <;> simp [*], rfl, rfl, rfl, by simp, by simp⟩

/-- Blocks handed to a buffer and then more blocks. -/
theorem Store.handedTo.trans {xs ys : List Nat} {t : Store} (h1 : st.handedTo h xs u) (h2 : u.handedTo h ys t) :
    st.handedTo h (xs ++ ys) t where
  buffer g := by
    rw [h2.buffer, h1.buffer, if_pos rfl, h1.buffer]
    split <;> simp
  freeCount := by rw [h2.freeCount, h1.freeCount, List.length_append, Nat.sub_sub]
  reserve := h2.reserve.trans h1.reserve
  waitQueue := h2.waitQueue.trans h1.waitQueue
  byteAt a := by
    rw [h2.byteAt, h1.byteAt]
    by_cases hx : a / 64 ∈ xs <;> simp [hx]
  levelAt w := by
    rw [h2.levelAt, h1.levelAt]
    by_cases hx : w / 8 ∈ xs <;> simp [hx]

/-- Clearing a block leaves the handle table. -/
theorem Store.clearBlock_buffer {blk : Nat} : (st.clearBlock blk).buffer g = st.buffer g := by cases g <;> rfl

section TakeBlock

variable (hs : (st.buffer h).state ≠ .free)
include hs

/-- Taking a block for a buffer in use: the lowest free one is cleared and appended to its list (R99). -/
theorem Store.takeBlock_eq : st.takeBlock h =
    { (st.clearBlock st.lowestFree).setBuffer h
        { st.buffer h with blocks := (st.buffer h).blocks ++ [st.lowestFree] } with
      freeCount := st.freeCount - 1 } := by
  rw [Store.takeBlock, if_neg hs]
  cases h <;> rfl

/-- Taking a block hands the lowest free one to the buffer (R99). -/
theorem Store.takeBlock_handedTo : st.handedTo h [st.lowestFree] (st.takeBlock h) where
  buffer g := by
    have hset := (st.clearBlock st.lowestFree).setBuffer_buffer h g
      { st.buffer h with blocks := (st.buffer h).blocks ++ [st.lowestFree] }
    rw [Store.takeBlock_eq hs]
    simp only [Store.handle_range hs, and_self, and_true] at hset
    cases g <;> exact hset
  freeCount := by rw [Store.takeBlock_eq hs]; rfl
  reserve := by rw [Store.takeBlock_eq hs, Store.setBuffer_reserve]; rfl
  waitQueue := by rw [Store.takeBlock_eq hs, Store.setBuffer_waitQueue]; rfl
  byteAt a := by
    rw [Store.takeBlock_eq hs]
    exact (Store.byteAt_setBuffer.trans Store.byteAt_clearBlock).trans (by simp only [List.mem_singleton])
  levelAt w := by
    rw [Store.takeBlock_eq hs]
    exact (Store.levelAt_setBuffer.trans Store.levelAt_clearBlock).trans (by simp only [List.mem_singleton])

/-- The block taken joins those held. -/
theorem Store.heldBlocks_takeBlock : (st.takeBlock h).heldBlocks.Perm (st.lowestFree :: st.heldBlocks) := by
  have hp := Store.heldBlocks_setBuffer (st := st.clearBlock st.lowestFree)
    (b := { st.buffer h with blocks := (st.buffer h).blocks ++ [st.lowestFree] }) (Store.handle_range hs)
  rw [Store.clearBlock_buffer, ← List.append_assoc] at hp
  rw [Store.takeBlock_eq hs]
  exact (List.perm_append_right_iff _).mp (hp.trans (List.perm_append_singleton _ _))

/-- Taking a block keeps the count of blocks (R99). -/
theorem Store.takeBlock_blocksCounted (hc : st.blocksCounted) (hf : 0 < st.freeCount) :
    (st.takeBlock h).blocksCounted := by
  obtain ⟨hout, hlt, -⟩ := Store.lowestFree_spec hc hf
  obtain ⟨hnodup, hheld, hcount, hfree⟩ := hc
  have hp := Store.heldBlocks_takeBlock hs
  refine ⟨hp.nodup_iff.mpr (List.nodup_cons.mpr ⟨hout, hnodup⟩), fun b hb => ?_, ?_, fun x hx hxs => ?_⟩
  · rcases List.mem_cons.mp (hp.mem_iff.mp hb) with rfl | hb
    · exact hlt
    · exact hheld b hb
  · rw [hp.length_eq, (Store.takeBlock_handedTo hs).freeCount, List.length_singleton, List.length_cons]
    omega
  · rw [Store.takeBlock_eq hs] at hx
    rcases Store.mem_handles_setBuffer (st := st.clearBlock st.lowestFree) hx with hx | rfl
    · exact hfree x hx hxs
    · exact absurd hxs hs

end TakeBlock

/-- Taking blocks hands the lowest free ones to the buffer, in rising order (R99). -/
theorem Store.takeBlocks_spec : ∀ (n : Nat) (st : Store), st.blocksCounted → n ≤ st.freeCount →
    (st.buffer h).state ≠ .free → ∃ taken, taken.length = n ∧ LowestOutside st.heldBlocks taken ∧
      st.handedTo h taken (st.takeBlocks h n)
  | 0, st, _, _, _ => ⟨[], rfl, .nil _, st.handedTo_nil h⟩
  | n + 1, st, hc, hn, hs => by
    have hone := Store.takeBlock_handedTo hs
    have hs' : ((st.takeBlock h).buffer h).state ≠ .free := by simpa [hone.buffer] using hs
    have hn' : n ≤ (st.takeBlock h).freeCount := by
      rw [hone.freeCount, List.length_singleton]
      omega
    obtain ⟨taken, hlen, hlow, hrest⟩ :=
      Store.takeBlocks_spec n _ (Store.takeBlock_blocksCounted hs hc (by omega)) hn' hs'
    obtain ⟨hout, hlt, hbelow⟩ := Store.lowestFree_spec hc (by omega)
    have hheld (a : Nat) : a ∈ (st.takeBlock h).heldBlocks ↔ a = st.lowestFree ∨ a ∈ st.heldBlocks :=
      (Store.heldBlocks_takeBlock hs).mem_iff.trans List.mem_cons
    exact ⟨st.lowestFree :: taken, by simp [hlen], hlow.cons hlt hout hbelow hheld, hone.trans hrest⟩

/-- Every byte of a buffer whose blocks have just been handed to it reads 00H in a clean word. -/
theorem Store.handedTo.reads {taken : List Nat} (hu : st.handedTo h taken u) (hb : (u.buffer h).blocks = taken)
    (ho : o < 64 * taken.length) : u.readAt h o = 0 ∧ u.levelOf h o = .clean := by
  have hlt : o / 64 < taken.length := by omega
  have hm : taken[o / 64] ∈ taken := List.getElem_mem hlt
  have ha : (u.buffer h).address o = some (64 * taken[o / 64] + o % 64) := by simp [Buffer.address, hb, hlt]
  have hblk : (64 * taken[o / 64] + o % 64) / 64 = taken[o / 64] := by omega
  have hword : (64 * taken[o / 64] + o % 64) / 8 / 8 = taken[o / 64] := by omega
  simp [Store.readAt, Store.levelOf, ha, hu.byteAt, hu.levelAt, hblk, hword, hm]

end Sys2Proof.Machine

/-! PROOF. BUF ALLOC (R103), BUF WRITE (R104), BUF INFO (R107) and STORE SET (R108): how each owner answers, and what
the answer leaves in the store. -/

namespace Sys2Proof.Machine

/- One proof after another, on the thread that reads the text: the check's memory limit leaves no room for a further
thread once the tests above have run. -/
set_option Elab.async false

variable {s : State} {f : Frame}

theorem State.popped_setStore (s : State) (x : Store) : s.popped.setStore x = (s.setStore x).popped := rfl

/-- A request taken is answered by the first of its owner's checks that fails, else as it is carried out (R164). -/
theorem State.conclude_checked_cons (s : State) (f : Frame) (fails : Bool) (st : Status)
    (rest : List (Bool × Status)) (accept : Answer) :
    State.conclude .ordinary f false (checked s.popped ((fails, st) :: rest) accept) =
      if fails then s.answered f .ordinary st []
      else State.conclude .ordinary f false (checked s.popped rest accept) := by
  rw [checked_cons, apply_ite (State.conclude .ordinary f false), State.conclude_now]

/-! ### BUF ALLOC (R103) -/

/-- BUF ALLOC by R103: its checks in order, then the lowest FREE handle with its blocks. -/
theorem exec_bufAlloc_of_takes (h : s.takes 0x10 f) :
    exec .bufAlloc s = .next (
      let size := (halfAt f.payload 0).toNat
      if size = 0 ∨ 4096 < size then s.answered f .ordinary .badField []
      else if s.store.freeCount < s.store.reserve + blocksFor size then s.answered f .ordinary .noSpace []
      else s.store.freeHandle.elim (s.answered f .ordinary .noHandle []) fun h =>
        (s.setStore ((s.store.setBuffer h (hostBuffer size)).takeBlocks h (blocksFor size))).answered f
          .ordinary .ok [byteOf h]) := by
  refine congrArg Host.Outcome.next ((State.serve_of_takes h).trans ?_)
  simp only [ownBufAlloc, State.conclude_checked_cons, checked_nil, decide_eq_true_eq]
  simp only [State.popped_store]
  cases s.store.freeHandle <;> rfl

/-- The entry that BUF ALLOC makes, before its blocks, keeps the count of blocks. -/
theorem Store.setBuffer_hostBuffer_blocksCounted {st : Store} {h size : Nat} (hc : st.blocksCounted) (h1 : 1 ≤ h)
    (h2 : h ≤ 48) (hs : (st.buffer h).state = .free) :
    (st.setBuffer h (hostBuffer size)).heldBlocks.Perm st.heldBlocks ∧
      (st.setBuffer h (hostBuffer size)).blocksCounted := by
  have hp := Store.heldBlocks_setBuffer (st := st) (b := hostBuffer size) ⟨h1, h2⟩
  rw [Store.blocksCounted_free hc hs, show (hostBuffer size).blocks = [] from rfl, List.append_nil,
    List.append_nil] at hp
  obtain ⟨hnodup, hheld, hcount, hfree⟩ := hc
  refine ⟨hp, hp.nodup_iff.mpr hnodup, fun b hb => hheld b (hp.mem_iff.mp hb), ?_, fun x hx hxs => ?_⟩
  · rw [hp.length_eq, Store.setBuffer_freeCount, hcount]
  · rcases Store.mem_handles_setBuffer hx with hx | rfl
    · exact hfree x hx hxs
    · rfl

/-- Settles O15: each refusal is a branch of the owner's answer; the accepted buffer is a new entry to which the lowest
free blocks are handed. -/
theorem bufAllocFollowsItsRule : Obligations.BufAllocFollowsItsRule := by
  intro s f ht hc n k
  rw [exec_bufAlloc_of_takes ht]
  refine ⟨fun hn => ?badField, fun h1 h2 hsp => ?noSpace, fun h1 h2 hsp hh => ?noHandle,
    fun h h1 h2 hsp hh1 hh2 hs hlow => ?accepted⟩
  case badField => exact congrArg _ (if_pos hn)
  case noSpace => exact congrArg _ ((if_neg (by omega)).trans (if_pos hsp))
  case noHandle =>
    refine congrArg _ ((if_neg (by omega)).trans ((if_neg (Nat.not_lt.mpr hsp)).trans ?_))
    rw [Store.freeHandle_eq_none hh, Option.elim_none]
  case accepted =>
    obtain ⟨hheld, hc'⟩ := Store.setBuffer_hostBuffer_blocksCounted (size := n) hc hh1 hh2 hs
    have hb : (s.store.setBuffer h (hostBuffer n)).buffer h = hostBuffer n := by simp [Store.setBuffer_buffer, hh1, hh2]
    obtain ⟨taken, hlen, hlowest, hu⟩ := Store.takeBlocks_spec (h := h) k _ hc'
      (by rw [Store.setBuffer_freeCount]; omega) (by rw [hb]; exact HandleState.noConfusion)
    generalize hst : (s.store.setBuffer h (hostBuffer n)).takeBlocks h k = st at hu
    have hbuf : st.buffer h = { hostBuffer n with blocks := taken } := by
      rw [hu.buffer, if_pos rfl, hb]
      rfl
    have hblk : (st.buffer h).blocks = taken := by rw [hbuf]
    refine ⟨st, ?answer, by rw [hbuf]; rfl, ?_⟩
    case answer =>
      subst hst
      refine congrArg _ ((if_neg (by omega)).trans ((if_neg (Nat.not_lt.mpr hsp)).trans ?_))
      rw [Store.freeHandle_eq_some hh1 hh2 hs hlow]
      rfl
    rw [hblk]
    refine ⟨hlen, fun b hb => ?_, hlowest.rising, fun b hb a ha => ?_, fun g hg => ?_, ?_, ?_, ?_,
      fun o ho => hu.reads hblk (hlen ▸ ho), fun a ha => ⟨?_, ?_⟩⟩
    · exact (hlowest.outside b hb).imp_right (mt hheld.mem_iff.mpr)
    · exact (hlowest.lowest b hb a ha).imp_left hheld.mem_iff.mp
    · rw [hu.buffer, if_neg hg, Store.setBuffer_buffer, if_neg (fun e => hg e.1)]
    · rw [hu.freeCount, hlen, Store.setBuffer_freeCount]
    · rw [hu.reserve, Store.setBuffer_reserve]
    · rw [hu.waitQueue, Store.setBuffer_waitQueue]
    · rw [hu.byteAt, if_neg ha, Store.byteAt_setBuffer]
    · rw [hu.levelAt, if_neg (by rwa [Nat.div_div_eq_div_mul]), Store.levelAt_setBuffer]

/-! ### BUF WRITE (R104) -/

/-- BUF WRITE by R104: its checks in order, then the write. -/
theorem exec_bufWrite_of_takes (h : s.takes 0x11 f) :
    exec .bufWrite s = .next (
      let h := (byteAt f.payload 0).toNat
      let o := (halfAt f.payload 2).toNat
      let data := f.payload.drop 4
      if (s.store.buffer h).state ≠ .allocated then s.answered f .ordinary .badHandle []
      else if (s.store.buffer h).size < o + data.length then s.answered f .ordinary .badRange []
      else if 0 < (s.store.buffer h).useCount then s.answered f .ordinary .locked []
      else (s.setStore (s.store.writeBytes h o data)).answered f .ordinary .ok []) := by
  refine congrArg Host.Outcome.next ((State.serve_of_takes h).trans ?_)
  simp only [ownBufWrite, State.conclude_checked_cons, checked_nil, decide_eq_true_eq, bne_iff_ne]
  rfl

/-- Settles O16: each refusal is a branch of the owner's answer; of the bytes a write puts each at its own address, keeps
those of a readable word and zeroes those of an uncorrectable one. -/
theorem bufWriteStoresItsBytes : Obligations.BufWriteStoresItsBytes := by
  intro s f ht hcount hcan h o data b written covered
  rw [exec_bufWrite_of_takes ht]
  refine ⟨fun hs => ?badHandle, fun hs hr => ?badRange, fun hs hr hu => ?locked, fun hs hr hu => ?accepted⟩
  case badHandle => exact congrArg _ (if_pos hs)
  case badRange => exact congrArg _ ((if_neg (not_not.mpr hs)).trans (if_pos hr))
  case locked =>
    exact congrArg _ ((if_neg (not_not.mpr hs)).trans ((if_neg (Nat.not_lt.mpr hr)).trans (if_pos hu)))
  case accepted =>
    obtain ⟨hnodup, hlt⟩ := Store.blocksCounted_buffer hcount h
    have hframe := Store.writeBytes_frame (h := h) data o s.store
    have hin {a : Nat} (hw : covered (a / 8)) :
        (s.store.writeBytes h o data).byteAt a = (s.store.writeBytes h o data).keptAt a :=
      Store.byteAt_writeBytes_of_covered hcan hlt hw
    have hkept {a : Nat} (ha : ¬ written a) : (s.store.writeBytes h o data).keptAt a = s.store.keptAt a :=
      Store.keptAt_writeBytes_of_not_written data o s.store hcan hlt ha
    refine ⟨s.store.writeBytes h o data, ?answer, by rw [hframe], by rw [hframe], by rw [hframe], by rw [hframe],
      fun k a hk ha => ?stored, fun a ha hw hl => ?zeroed, fun a ha hw => ?left,
      fun w hw => Store.levelAt_writeBytes_of_covered data o s.store hcan hlt (.inl hw),
      fun w hw => Store.levelAt_writeBytes_of_not_covered data o s.store hcan hlt hw⟩
    case answer =>
      exact congrArg _ ((if_neg (not_not.mpr hs)).trans ((if_neg (Nat.not_lt.mpr hr)).trans
        (if_neg (Nat.not_lt.mpr hu.le))))
    case stored =>
      rw [hin ⟨a, ⟨k, hk, ha⟩, rfl⟩]
      exact Store.keptAt_writeBytes_of_written data o k s.store hcan hlt hnodup hk ha
    case zeroed => rw [hin hw, hkept ha, Store.keptAt_of_uncorrectable hl]
    case left =>
      by_cases hc : covered (a / 8)
      · rw [hin hc, hkept ha, Store.keptAt_of_readable (fun hl => hw ⟨hc, hl⟩)]
      · exact Store.byteAt_writeBytes_of_not_covered data o s.store hcan hlt hc

/-! ### BUF INFO and STORE SET (R107, R108) -/

/-- BUF INFO by R107. -/
theorem exec_bufInfo_of_takes (h : s.takes 0x14 f) :
    exec .bufInfo s = .next (
      let h := (byteAt f.payload 0).toNat
      if 48 < h then s.answered f .ordinary .badHandle []
      else if h = 0 then s.answered f .ordinary .ok s.store.summary
      else s.answered f .ordinary .ok (handleResults (s.store.buffer h))) := by
  refine congrArg Host.Outcome.next ((State.serve_of_takes h).trans ?_)
  simp only [ownBufInfo, apply_ite (State.conclude .ordinary f false), State.conclude_now]
  rfl

/-- STORE SET by R108. -/
theorem exec_storeSet_of_takes (h : s.takes 0x15 f) :
    exec .storeSet s = .next (
      let v := (byteAt f.payload 0).toNat
      if 128 < v then s.answered f .ordinary .badField []
      else (s.setStore { s.store with reserve := v }).answered f .ordinary .ok []) := by
  refine congrArg Host.Outcome.next ((State.serve_of_takes h).trans ?_)
  simp only [ownStoreSet, apply_ite (State.conclude .ordinary f false), State.popped_setStore, State.conclude_now]
  rfl

/-- The store summary counts the FREE entries of the table (R107). -/
theorem Store.summary_eq (st : Store) : st.summary = numBytes st.freeCount ++
    [BitVec.ofNat 8 (st.handles.toList.filter (fun b => b.state == .free)).length, BitVec.ofNat 8 st.reserve,
      BitVec.ofNat 8 st.waitQueue.length] ++
    (st.waitQueue.map (fun (c : ChanIx) => BitVec.ofNat 8 c.val) ++ [0xFF, 0xFF, 0xFF, 0xFF]).take 4 := by
  rw [Store.summary, st.length_filter_handles (fun b => b.state == .free)]
  rfl

/-- A byte of two flags. -/
theorem flagsByte_pair (x y : Bool) : flagsByte [x, y] = (if x then 1 else 0) + (if y then 2 else 0) := by
  cases x <;> cases y <;> decide

/-- The results for a FREE handle: the state and zeros (R107). -/
theorem handleResults_of_free {b : Buffer} (hs : b.state = .free) :
    handleResults b = [0, 0, 0, 0, 0, 0, 0, 0, 0, 0, 0] := by
  rw [handleResults, hs]
  rfl

/-- The results for a buffer in use: its entry, and what only a PENDING one has (R107). -/
theorem handleResults_of_used {b : Buffer} (hs : b.state ≠ .free) :
    handleResults b = [handleStateCode b.state, originCode b.origin] ++ numBytes b.size ++
      [BitVec.ofNat 8 b.blocks.length, BitVec.ofNat 8 b.useCount,
        (if b.inputLocked then 1 else 0) + (if b.outputLocked then 2 else 0)] ++
      (if b.state = .pending then numBytes b.maximum ++ numBytes b.ownerTag else [0, 0, 0, 0]) := by
  rw [← flagsByte_pair]
  cases hb : b.state with
  | free => exact absurd hb hs
  | allocated => simp only [handleResults, hb]; rfl
  | pending => simp only [handleResults, hb]; rfl

/-- Settles O20: each line of the two rules is one branch of the owner's answer. -/
theorem bufInfoAndStoreSetFollowTheirRules : Obligations.BufInfoAndStoreSetFollowTheirRules := by
  refine ⟨fun s f ht => ?bufInfo, fun s f ht => ?storeSet⟩
  case bufInfo =>
    intro h b entry
    rw [exec_bufInfo_of_takes ht]
    have hentry (h1 : 1 ≤ h) (h2 : h ≤ 48) (results : List Byte) (hr : handleResults b = results) :
        (if 48 < h then s.answered f .ordinary .badHandle []
          else if h = 0 then s.answered f .ordinary .ok s.store.summary
          else s.answered f .ordinary .ok (handleResults b)) = s.answered f .ordinary .ok results := by
      rw [if_neg (by omega), if_neg (by omega), hr]
    refine ⟨fun hh => ?badHandle, fun hh => ?summary, fun h1 h2 hs => ?free, fun h1 h2 hs => ?allocated,
      fun h1 h2 hs => ?pending⟩
    case badHandle => exact congrArg _ (if_pos hh)
    case summary =>
      rw [← Store.summary_eq]
      exact congrArg _ ((if_neg (by omega)).trans (if_pos hh))
    case free => exact congrArg _ (hentry h1 h2 _ (handleResults_of_free hs))
    case allocated =>
      refine congrArg _ (hentry h1 h2 _ ?_)
      have hp : b.state ≠ .pending := by simp [hs]
      rw [handleResults_of_used (by simp [hs]), if_neg hp, hs]
      rfl
    case pending =>
      refine congrArg _ (hentry h1 h2 _ ?_)
      rw [handleResults_of_used (by simp [hs]), if_pos hs, hs]
      rfl
  case storeSet =>
    intro v
    rw [exec_storeSet_of_takes ht]
    exact ⟨fun hv => congrArg _ (if_pos hv), fun hv => congrArg _ (if_neg (Nat.not_lt.mpr hv))⟩

end Sys2Proof.Machine

/-! PROOF. WATCH SET (R139), FAULT READ, FAULT CLEAR and FAULT MASK (R147 to R149): how each owner answers, and the
bytes of the replies. -/

namespace Sys2Proof.Machine

/- One proof after another, on the thread that reads the text: the check's memory limit leaves no room for a further
thread once the tests above have run. -/
set_option Elab.async false

variable {s : State} {f : Frame}

/-! ### The bank a fault request names -/

/-- A byte that is a bank number names that bank. -/
theorem bankOf_of_toNat {v : Byte} {b : BankIx} (h : v.toNat = b.val) : bankOf v = some b := by
  simp [bankOf, h]

/-- A byte above 6 names no bank. -/
theorem bankOf_eq_none {v : Byte} (h : 6 < v.toNat) : bankOf v = none :=
  dif_neg (by omega)

/-! ### Taking the frame commutes with the updates -/

theorem State.popped_setWatch (s : State) (c : ChanIx) (x : Watch) :
    s.popped.setWatch c x = (s.setWatch c x).popped := rfl

theorem State.popped_setBank (s : State) (b : BankIx) (x : Bank) :
    s.popped.setBank b x = (s.setBank b x).popped := rfl

/-! ### WATCH SET (R139) -/

/-- A running timer starts again from 0 with WARN taken clear (R139). -/
theorem Watch.reprogrammed_of_running {w : Watch} {ms : Nat} (h : w.timer = some ms) (warn limit : Nat) :
    w.reprogrammed warn limit = { w with warn := warn, limit := limit, timer := some 0, warnTaken := false } := by
  simp [Watch.reprogrammed, h]

/-- A stopped timer stays stopped (R139). -/
theorem Watch.reprogrammed_of_stopped {w : Watch} (h : w.timer = none) (warn limit : Nat) :
    w.reprogrammed warn limit = { w with warn := warn, limit := limit } := by
  simp [Watch.reprogrammed, h]

/-- The results of WATCH SET: the values in force, then whether the timer runs and what it has reached (R139). -/
def watchResults (w : Watch) : List Byte :=
  numBytes w.warn ++ numBytes w.limit ++ flagsByte [w.timer.isSome] :: numBytes (w.timer.getD 0)

theorem watchResults_of_stopped {w : Watch} (h : w.timer = none) :
    watchResults w = numBytes w.warn ++ numBytes w.limit ++ [0, 0, 0] := by
  rw [watchResults, h]
  exact congrArg _ (show flagsByte [false] :: numBytes 0 = [0, 0, 0] by decide)

/-- A timer that starts again has reached 0. -/
theorem watchResults_of_restarted {w : Watch} (h : w.timer = some 0) :
    watchResults w = numBytes w.warn ++ numBytes w.limit ++ [1, 0, 0] := by
  rw [watchResults, h]
  exact congrArg _ (show flagsByte [true] :: numBytes 0 = [1, 0, 0] by decide)

/-- WATCH SET by R139: its checks in order, then the watch as it is reprogrammed and its results. -/
theorem exec_watchSet_of_takes (h : s.takes 0x48 f) :
    exec .watchSet s = .next (
      let warn := (halfAt f.payload 1).toNat
      let limit := (halfAt f.payload 3).toNat
      (channelOf (byteAt f.payload 0)).elim (s.answered f .ordinary .badField []) fun c =>
        if 60000 < warn ∨ 60000 < limit then s.answered f .ordinary .badField []
        else if warn ≠ 0 ∧ limit ≠ 0 ∧ limit ≤ warn then s.answered f .ordinary .badField []
        else
          let w := (s.watch c).reprogrammed warn limit
          (s.setWatch c w).answered f .ordinary .ok (watchResults w)) := by
  refine congrArg Host.Outcome.next ((State.serve_of_takes h).trans ?_)
  have values (w : Watch) (warn limit : Nat) :
      (w.reprogrammed warn limit).warn = warn ∧ (w.reprogrammed warn limit).limit = limit := by
    cases ht : w.timer with
    | none => simp [Watch.reprogrammed_of_stopped ht]
    | some ms => simp [Watch.reprogrammed_of_running ht]
  unfold ownWatchSet
  cases channelOf (byteAt f.payload 0) with
  | none => rfl
  | some c =>
    simp only [State.conclude_checked_cons, checked_nil, decide_eq_true_eq, State.popped_watch, State.popped_setWatch,
      State.conclude_now, Option.elim_some, watchResults, values]

/-- WATCH SET refuses a byte that names no channel, and for a channel what fails one of the two checks of the values. -/
theorem exec_watchSet_of_refused (h : s.takes 0x48 f)
    (hr : ∀ c, channelOf (byteAt f.payload 0) = some c →
      (60000 < (halfAt f.payload 1).toNat ∨ 60000 < (halfAt f.payload 3).toNat) ∨
      (halfAt f.payload 1).toNat ≠ 0 ∧ (halfAt f.payload 3).toNat ≠ 0 ∧
        (halfAt f.payload 3).toNat ≤ (halfAt f.payload 1).toNat) :
    exec .watchSet s = .next (s.answered f .ordinary .badField []) := by
  refine (exec_watchSet_of_takes h).trans (congrArg _ ?_)
  cases hc : channelOf (byteAt f.payload 0) with
  | none => rfl
  | some c =>
    rcases hr c hc with hover | horder
    · exact if_pos hover
    · exact (congrArg (ite _ _) (if_pos horder)).trans (ite_self _)

/-- WATCH SET where every check passes. -/
theorem exec_watchSet_of_accepted {c : ChanIx} {w : Watch} {results : List Byte} (h : s.takes 0x48 f)
    (hc : natAt f.payload 0 = c.val) (hw : (halfAt f.payload 1).toNat ≤ 60000)
    (hl : (halfAt f.payload 3).toNat ≤ 60000)
    (ho : (halfAt f.payload 1).toNat = 0 ∨ (halfAt f.payload 3).toNat = 0 ∨
      (halfAt f.payload 1).toNat < (halfAt f.payload 3).toNat)
    (hre : (s.watch c).reprogrammed (halfAt f.payload 1).toNat (halfAt f.payload 3).toNat = w)
    (hres : watchResults w = results) :
    exec .watchSet s = .next ((s.setWatch c w).answered f .ordinary .ok results) := by
  rw [exec_watchSet_of_takes h, channelOf_of_toNat hc, Option.elim_some, ← hres, ← hre]
  exact congrArg _ ((if_neg (by omega)).trans (if_neg (by omega)))

/-! ### The fault requests (R147 to R149) -/

/-- FAULT READ by R147. -/
theorem exec_faultRead_of_takes (h : s.takes 0x49 f) :
    exec .faultRead s = .next (
      (bankOf (byteAt f.payload 0)).elim (s.answered f .ordinary .badField []) fun b =>
        s.answered f .ordinary .ok (bankBlock (s.faultInfo b) ++
          [flagsByte [(s.bank b).maskCorrected, (s.bank b).maskUncorrected],
            flagsByte [s.reports.faultPending.get b]])) := by
  refine congrArg Host.Outcome.next ((State.serve_of_takes h).trans ?_)
  unfold ownFaultRead
  cases bankOf (byteAt f.payload 0) <;> rfl

/-- FAULT CLEAR by R148. -/
theorem exec_faultClear_of_takes (h : s.takes 0x4A f) :
    exec .faultClear s = .next (
      (bankOf (byteAt f.payload 0)).elim (s.answered f .ordinary .badField []) fun b =>
        (s.setBank b { s.bank b with record := none, overflow := false, corrected := 0 }).answered f
          .ordinary .ok []) := by
  refine congrArg Host.Outcome.next ((State.serve_of_takes h).trans ?_)
  unfold ownFaultClear
  cases bankOf (byteAt f.payload 0) <;> rfl

/-- FAULT MASK by R149: the bank is checked before the mask value. -/
theorem exec_faultMask_of_takes (h : s.takes 0x4B f) :
    exec .faultMask s = .next (
      let m := byteAt f.payload 1
      (bankOf (byteAt f.payload 0)).elim (s.answered f .ordinary .badField []) fun b =>
        if 4 ≤ m.toNat then s.answered f .ordinary .badField []
        else (s.setBank b { s.bank b with
          maskCorrected := m.getLsbD 0, maskUncorrected := m.getLsbD 1 }).answered f .ordinary .ok []) := by
  refine congrArg Host.Outcome.next ((State.serve_of_takes h).trans ?_)
  unfold ownFaultMask
  cases bankOf (byteAt f.payload 0) with
  | none => rfl
  | some b =>
    simp only [apply_ite (State.conclude .ordinary f false), State.popped_bank, State.popped_setBank,
      State.conclude_now, Option.elim_some]

/-- Every fault request refuses a byte above 6 as its bank. -/
theorem exec_faultRequest_of_badBank {c : Instr} {k : Byte}
    (hc : c = .faultRead ∧ k = 0x49 ∨ c = .faultClear ∧ k = 0x4A ∨ c = .faultMask ∧ k = 0x4B)
    (h : s.takes k f) (hb : 6 < natAt f.payload 0) :
    exec c s = .next (s.answered f .ordinary .badField []) := by
  have hnone : bankOf (byteAt f.payload 0) = none := bankOf_eq_none hb
  rcases hc with ⟨rfl, rfl⟩ | ⟨rfl, rfl⟩ | ⟨rfl, rfl⟩
  · rw [exec_faultRead_of_takes h, hnone, Option.elim_none]
  · rw [exec_faultClear_of_takes h, hnone, Option.elim_none]
  · rw [exec_faultMask_of_takes h, hnone, Option.elim_none]

/-! ### The bytes of a bank and of its masks (R169, R176) -/

/-- A byte of one flag. -/
theorem flagsByte_one (x : Bool) : flagsByte [x] = BitVec.ofNat 8 (if x then 1 else 0) := by
  cases x <;> decide

/-- A byte of two flags, as the number of its flags. -/
theorem flagsByte_two (x y : Bool) :
    flagsByte [x, y] = BitVec.ofNat 8 ((if x then 1 else 0) + if y then 2 else 0) := by
  cases x <;> cases y <;> decide

/-- The flags byte of a bank with VALID set. -/
theorem flagsByte_valid (x y z : Bool) :
    flagsByte [true, x, y, z] =
      BitVec.ofNat 8 (1 + (if x then 2 else 0) + (if y then 4 else 0) + if z then 8 else 0) := by
  cases x <;> cases y <;> cases z <;> decide

/-- The two low bits of a mask value are the flags it is the number of. -/
theorem getLsbD_of_toNat_eq_flags {m : Byte} {x y : Bool}
    (h : m.toNat = (if x then 1 else 0) + if y then 2 else 0) : m.getLsbD 0 = x ∧ m.getLsbD 1 = y := by
  have hm : m = flagsByte [x, y] := by rw [flagsByte_two, ← h, BitVec.ofNat_toNat, BitVec.setWidth_eq]
  rw [hm]
  cases x <;> cases y <;> decide

/-- The sum of two mask flags is a mask value. -/
theorem flags_le_three (x y : Bool) : ((if x then 1 else 0) + if y then 2 else 0) ≤ 3 := by
  cases x <;> cases y <;> decide

/-- Bank 6 counts no uncorrected errors (R142). -/
theorem State.faultInfo_uncorrected (s : State) (b : BankIx) :
    (s.faultInfo b).uncorrected = if b.val = 6 then 0 else (s.bank b).uncorrected := by
  have hb := b.isLt
  by_cases h6 : b.val = 6
  · simp [State.faultInfo, h6]
  · simp [State.faultInfo, h6, show b.val < 6 by omega]

/-- The bank block while VALID is clear (R176). -/
theorem bankBlock_of_noRecord {b : BankIx} (h : (s.bank b).record = none) :
    bankBlock (s.faultInfo b) = [BitVec.ofNat 8 b.val, 0, 0, 0, 0, 0, 0, 0, 0] ++
      [BitVec.ofNat 8 (s.bank b).corrected,
        BitVec.ofNat 8 (if b.val = 6 then 0 else (s.bank b).uncorrected)] := by
  rw [← State.faultInfo_uncorrected]
  have hr : (s.faultInfo b).record = none := h
  rw [bankBlock, hr]
  rfl

/-- The bank block while VALID is set (R176). -/
theorem bankBlock_of_record {b : BankIx} {r : FaultRecord} (h : (s.bank b).record = some r) :
    bankBlock (s.faultInfo b) =
      [BitVec.ofNat 8 b.val,
        BitVec.ofNat 8 (1 + (if (s.bank b).overflow then 2 else 0) + (if r.site.isSome then 4 else 0) +
          if r.tag.isSome then 8 else 0),
        severityCode r.severity, faultKindCode r.kind] ++
      (match r.site with
       | none => [0, 0, 0]
       | some (.block h o) => BitVec.ofNat 8 h :: numBytes o
       | some (.stream n) => [BitVec.ofNat 8 n.val, 0, 0]) ++
      numBytes (r.tag.getD 0) ++
      [BitVec.ofNat 8 (s.bank b).corrected,
        BitVec.ofNat 8 (if b.val = 6 then 0 else (s.bank b).uncorrected)] := by
  have hr : (s.faultInfo b).record = some r := h
  have ho : (s.faultInfo b).overflow = (s.bank b).overflow := by simp [State.faultInfo, h]
  rw [← State.faultInfo_uncorrected, ← flagsByte_valid, ← ho, bankBlock, hr]
  obtain ⟨severity, kind, site, tag⟩ := r
  rcases site with _ | ⟨handle, offset⟩ | n <;> rfl

/-! ### The statement -/

/-- Settles O47: each refusal, and each line of the four rules, is one branch of the owner's answer. -/
theorem watchAndFaultRequestsFollowTheirRules : Obligations.WatchAndFaultRequestsFollowTheirRules := by
  refine ⟨fun s f ht => ?watchSet, fun s f b => ?faultRequests⟩
  case watchSet =>
    intro warn limit refused
    refine ⟨fun hc => exec_watchSet_of_refused ht fun c hsome => ?badChannel,
      fun hover => exec_watchSet_of_refused ht fun _ _ => .inl hover,
      fun h1 h2 h3 => exec_watchSet_of_refused ht fun _ _ => .inr ⟨h1, h2, h3⟩,
      fun c hc hw hl horder => ⟨fun hstop => ?stopped, fun ms hrun => ?running⟩⟩
    case badChannel =>
      rw [channelOf_eq_none hc] at hsome
      cases hsome
    case stopped =>
      exact exec_watchSet_of_accepted ht hc hw hl horder (Watch.reprogrammed_of_stopped hstop warn limit)
        (watchResults_of_stopped hstop)
    case running =>
      exact exec_watchSet_of_accepted ht hc hw hl horder (Watch.reprogrammed_of_running hrun warn limit)
        (watchResults_of_restarted rfl)
  case faultRequests =>
    intro x refused flag
    refine ⟨fun c k hc ht hb => exec_faultRequest_of_badBank hc ht hb, fun ht hb => ?read, fun ht hb => ?clear,
      fun ht hb => ⟨fun hm => ?badMask, fun corrected uncorrected hm => ?mask⟩⟩
    case read =>
      have hexec : exec .faultRead s = .next (s.answered f .ordinary .ok (bankBlock (s.faultInfo b) ++
          [BitVec.ofNat 8 (flag x.maskCorrected 1 + flag x.maskUncorrected 2),
            BitVec.ofNat 8 (flag (s.reports.faultPending.get b) 1)])) := by
        rw [exec_faultRead_of_takes ht, bankOf_of_toNat hb, Option.elim_some, flagsByte_two, flagsByte_one]
      intro counts
      refine ⟨fun hr => ?invalid, fun r hr => ?valid⟩
      case invalid =>
        rw [hexec, bankBlock_of_noRecord hr]
        rfl
      case valid =>
        rw [hexec, bankBlock_of_record hr, List.append_assoc]
        rfl
    case clear => rw [exec_faultClear_of_takes ht, bankOf_of_toNat hb, Option.elim_some]
    case badMask =>
      refine (exec_faultMask_of_takes ht).trans (congrArg _ ?_)
      rw [bankOf_of_toNat hb, Option.elim_some]
      exact if_pos hm
    case mask =>
      have hle : natAt f.payload 1 ≤ 3 := hm.trans_le (flags_le_three corrected uncorrected)
      obtain ⟨h0, h1⟩ := getLsbD_of_toNat_eq_flags hm
      rw [exec_faultMask_of_takes ht, bankOf_of_toNat hb, Option.elim_some, h0, h1]
      exact congrArg _ (if_neg (Nat.not_le.mpr (Nat.lt_succ_of_le hle)))

end Sys2Proof.Machine
